-- ==== Sys2Proof/Word.lean ====
section
/-! DEFINITION. The widths of gpsdo-core's transaction words: a transaction word is 32 bits (R13, R70), and a
serialized word or read value is a list of bytes (R52), laid out in Decode.lean. -/

namespace Sys2Proof

/-- One transaction word (R13, R70). -/
abbrev Word := BitVec 32

/-- One byte of a serialized word (R52). -/
abbrev Byte := BitVec 8

/-- The whole-register value RDREG returns (R221). -/
abbrev ReadData := BitVec 64

end Sys2Proof
end

