-- ==== Sys2Proof/Config.lean ====
section
/-! DEFINITION. What an implementation of gpsdo-core fixes: the modes, the register names, the fixed parameters of
R8 and the configuration record `Cfg` that holds every row of R8 marked OPEN or tunable. -/

namespace Sys2Proof

/-- The twelve control modes (R14, R31). R151 prefers this enumeration over a 4-bit field: codes 12 to 15 cannot be
held. -/
inductive Mode where
  | start
  | checkErrors
  | oscCold
  | noOscClock
  | noGpsPps
  | noGpsLock
  | good
  | fastInit
  | fastWait
  | fast
  | slowInit
  | slow
  deriving DecidableEq, Repr

/-- The nineteen registers that have a number (R22). -/
inductive RegName where
  | count
  | countAdd
  | sample
  | flags
  | ppsMiss
  | mode
  | winSum
  | winCnt
  | iHist
  | lockCnt
  | minNoAdj
  | duty
  | errCause
  | diagSecErr
  | diagWErr
  | diagP
  | diagI
  | diagAdj
  | diagFlags
  deriving DecidableEq, Repr

/-- A status pattern (R203): ACQUIRING is the one the spec names; "off / on / blink-rate" are the kinds it quotes.
How a pattern is rendered is outside the block (R6). DESIGN CHOICE, log entry 3. -/
inductive Pattern where
  | acquiring
  | off
  | on
  | blink (rate : Nat)
  deriving DecidableEq, Repr

/-- The Cfg function statusPattern (R8, R203), as a table with one entry per mode. -/
structure StatusTable where
  start : Pattern
  checkErrors : Pattern
  oscCold : Pattern
  noOscClock : Pattern
  noGpsPps : Pattern
  noGpsLock : Pattern
  good : Pattern
  fastInit : Pattern
  fastWait : Pattern
  fast : Pattern
  slowInit : Pattern
  slow : Pattern
  deriving DecidableEq, Repr

/-- The configuration record (R8). Its integers are held as `Int`, so that a record R9 refuses can be written down
and is refused by `cfgAdmitted`. The two tunable ones take R8's values where a record does not give them. -/
structure Cfg where
  /-- P_FACTOR_FAST. -/
  fastGain : Int
  /-- P_ERRORBAND_FAST; 1 unless the record says otherwise. -/
  fastErrorBand : Int := 1
  /-- P_MAX_ERROR; 393 unless the record says otherwise. -/
  fastMaxError : Int := 393
  /-- P_FACTOR_SLOW. -/
  slowGainP : Int
  /-- P_ERRORBAND_SLOW. -/
  slowErrorBandP : Int
  /-- I_FACTOR_SLOW. -/
  slowGainI : Int
  /-- I_ERRORBAND_SLOW. -/
  slowErrorBandI : Int
  /-- HAVE_OSC_COLD. -/
  haveOscColdSignal : Bool
  /-- HAVE_GPS_LOCK. -/
  haveGpsLockSignal : Bool
  /-- DUTY_INIT. -/
  dutyInit : Int
  /-- STATUS_PATTERN. -/
  statusPattern : StatusTable
  deriving DecidableEq, Repr

namespace Config

/-- WRAP_SIZE (R8): the period of the 16-bit raw counter. -/
abbrev wrapSize : Int := 65536

/-- NOMINAL_HZ (R8). -/
abbrev nominalHz : Int := 10000000

/-- SAMPLE_SECONDS (R8): accepted samples in a FAST window. -/
abbrev sampleSeconds : Int := 8

/-- SAMPLE_MINUTE (R8): accepted samples in a SLOW window. -/
abbrev sampleMinute : Int := 60

/-- FAST_SETTLE (R8). -/
abbrev fastSettle : Int := 5

/-- FAST_LOCK_WINDOWS (R8). -/
abbrev fastLockWindows : Nat := 5

/-- ADJ_LIMIT (R8). -/
abbrev adjLimit : Int := 32000

/-- SLOW_UNLOCK_ERROR (R8). -/
abbrev slowUnlockError : Int := 128

/-- NOPPS_THRESHOLD (R8), in raw ticks. -/
abbrev noPpsThreshold : Int := 15000000

/-- PPSMISS_LIMIT (R8). -/
abbrev ppsMissLimit : Int := 14

/-- DUTY_MIN (R8). -/
abbrev dutyMin : Int := 1

/-- DUTY_MAX (R8). -/
abbrev dutyMax : Int := 65535

/-- ADJUST_SETTLE (R8): samples discarded after an applied adjustment. -/
abbrev adjustSettle : Int := 1

/-- The status table of `exampleCfg`: ACQUIRING where R203 requires it, off elsewhere (DESIGN CHOICE, log entry 3). -/
def exampleStatus : StatusTable where
  start := .off
  checkErrors := .off
  oscCold := .off
  noOscClock := .off
  noGpsPps := .off
  noGpsLock := .off
  good := .off
  fastInit := .off
  fastWait := .acquiring
  fast := .acquiring
  slowInit := .off
  slow := .off

/-- The example configuration Cfg_ex of 95_test_vectors.md section 0. The spec leaves these values OPEN and gives them
as an example only; `State.reset` takes them (DESIGN CHOICE, log entry 2). P_ERRORBAND_FAST and P_MAX_ERROR are R8's own
values, which the record leaves as they are. -/
def exampleCfg : Cfg where
  fastGain := 648
  slowGainP := 2
  slowErrorBandP := 2
  slowGainI := 1
  slowErrorBandI := 3
  haveOscColdSignal := true
  haveGpsLockSignal := true
  dutyInit := 32768
  statusPattern := exampleStatus

end Config

end Sys2Proof
end

