-- ==== Sys2Proof/Syntax.lean ====
section
/-! DEFINITION. The transactions of gpsdo-core: one constructor for each row of spec/opcode_table.json (R3, R71). -/

namespace Sys2Proof

/-- One transaction (R3), with the operands R77 assembles from its word. The operand types are the widths of the word's
fields, so every term stands for exactly one legal word. -/
inductive Instr where
  /-- OVF (R72, R101): the raw counter's overflow is latched. -/
  | ovf
  /-- WRAP (R73, R102): the onCounterWrap service. -/
  | wrap
  /-- EDGE C (R74, R103): onReferenceEdge with the counter value latched at the 1PPS edge. -/
  | edge (c : BitVec 16)
  /-- PASS COLD,LOST (R75, R120): one main-loop pass with the two fault signals as sampled for it. -/
  | pass (cold lost : Bool)
  /-- RDREG REG (R76, R220): a read of one register by number. -/
  | rdreg (reg : BitVec 5)
  deriving DecidableEq, Repr

end Sys2Proof
end

