-- ==== Sys2Proof/WellFormed.lean ====
section
/-! DEFINITION. The assembler line of R82 and the pseudo-instructions of R83, whose operands are plain numbers, and the
check that refuses an operand out of range ("An operand out of range is rejected by the assembler, not encoded"). A
transaction is well formed when the line that writes it is. -/

namespace Sys2Proof

/-- One line of assembly (R82), pseudo-instructions included (R83). -/
inductive AsmLine where
  | ovf
  | wrap
  | edge (c : Nat)
  | pass (cold lost : Nat)
  /-- PASS alone, meaning PASS 0,0 (R82). -/
  | passAlone
  | rdregNumber (reg : Nat)
  | rdregName (reg : RegName)
  /-- TICKWRAPS n (R83). -/
  | tickWraps (n : Nat)
  /-- IDLE (R83). -/
  | idle
  /-- SECOND n,c (R83). -/
  | second (n c : Nat)
  deriving DecidableEq, Repr

/-- The operand ranges of R82. -/
def AsmLine.wellFormed : AsmLine → Bool
  | .ovf => true
  | .wrap => true
  | .edge c => decide (c ≤ 65535)
  | .pass cold lost => decide (cold ≤ 1) && decide (lost ≤ 1)
  | .passAlone => true
  | .rdregNumber reg => decide (reg ≤ 31)
  | .rdregName _ => true
  | .tickWraps _ => true
  | .idle => true
  | .second _ c => decide (c ≤ 65535)

/-- The line of R82 that writes a transaction. -/
def Instr.asmLine : Instr → AsmLine
  | .ovf => .ovf
  | .wrap => .wrap
  | .edge c => .edge c.toNat
  | .pass cold lost => .pass cold.toNat lost.toNat
  | .rdreg reg => .rdregNumber reg.toNat

/-- A transaction is well formed when its line's operands are in range (R77, R82). -/
def Instr.wellFormed (i : Instr) : Bool := i.asmLine.wellFormed

end Sys2Proof
end

