-- ==== Sys2Proof/Decode.lean ====
section
/-! DEFINITION. Decoding of transaction words (R70 to R81), total on every word and rejecting by name (R79, R242), the
little-endian serialization of words and read values (R52), and the encoder written from the same layout (R71). -/

namespace Sys2Proof

/-- Why a word is rejected (R242). -/
inductive CmdCause where
  /-- Code 1: OP is 0x0 or 0x6 to 0xF. -/
  | illegalOp
  /-- Code 2: a defined OP with a reserved bit set. -/
  | reservedNonzero
  /-- Code 3: RDREG of an unassigned number; raised by RDREG itself (R222), never by decoding. -/
  | badRegister
  deriving DecidableEq, Repr

/-- What decoding a word gives: a transaction, or the cause for which the word is rejected. -/
inductive Decoded where
  | instr (i : Instr)
  | rejected (cause : CmdCause)
  deriving DecidableEq, Repr

/-- OP = w[31:28] (R70). -/
def fieldOp (w : Word) : BitVec 4 := w.extractLsb' 28 4

/-- RSV = w[27:16], which must be 0 (R70). -/
def fieldRsv (w : Word) : BitVec 12 := w.extractLsb' 16 12

/-- ARG = w[15:0] (R70). -/
def fieldArg (w : Word) : BitVec 16 := w.extractLsb' 0 16

/-- C = w[15:0] of EDGE (R77). -/
def fieldC (w : Word) : BitVec 16 := w.extractLsb' 0 16

/-- COLD = w[0] of PASS (R77). -/
def fieldCold (w : Word) : Bool := w.getLsbD 0

/-- LOST = w[1] of PASS (R77). -/
def fieldLost (w : Word) : Bool := w.getLsbD 1

/-- REG = w[4:0] of RDREG (R77). -/
def fieldReg (w : Word) : BitVec 5 := w.extractLsb' 0 5

/-- A word of a defined OP: its transaction where the reserved bits `rsv` are 0, else cause 2 (R79). -/
def unlessReserved {n : Nat} (rsv : BitVec n) (i : Instr) : Decoded :=
  if rsv = 0 then .instr i else .rejected .reservedNonzero

/-- Decoding of one word (R78, R79). The reserved bits are w[27:16] for every opcode, w[15:0] for OVF and WRAP, w[15:2]
for PASS and w[15:5] for RDREG. -/
def decode (w : Word) : Decoded :=
  if fieldOp w = 1 then unlessReserved (w.extractLsb' 0 28) .ovf
  else if fieldOp w = 2 then unlessReserved (w.extractLsb' 0 28) .wrap
  else if fieldOp w = 3 then unlessReserved (fieldRsv w) (.edge (fieldC w))
  else if fieldOp w = 4 then unlessReserved (w.extractLsb' 2 26) (.pass (fieldCold w) (fieldLost w))
  else if fieldOp w = 5 then unlessReserved (w.extractLsb' 5 23) (.rdreg (fieldReg w))
  else .rejected .illegalOp

/-- The word whose four bytes are given in serialization order, byte k holding bits [8k+7:8k] (R52). -/
def wordOfBytes (b0 b1 b2 b3 : Byte) : Word := b3 ++ b2 ++ b1 ++ b0

/-- The first `count` bytes of a value in serialization order, byte k holding bits [8k+7:8k] (R52). -/
def bytesOfBits {w : Nat} (count : Nat) (v : BitVec w) : List Byte :=
  (List.range count).map fun k => v.extractLsb' (8 * k) 8

/-- The four bytes of a word in serialization order (R52). -/
def bytesOfWord (w : Word) : List Byte := bytesOfBits 4 w

/-- The eight bytes of the value RDREG returns in serialization order (R52). -/
def bytesOfReadData (v : ReadData) : List Byte := bytesOfBits 8 v

/-- The read value at the front of serialized bytes, and the bytes after it (R52). Fewer than eight bytes are no read
value (log entry 12). -/
def readDataOfBytes : List Byte → Option (ReadData × List Byte)
  | b0 :: b1 :: b2 :: b3 :: b4 :: b5 :: b6 :: b7 :: rest =>
    some (wordOfBytes b4 b5 b6 b7 ++ wordOfBytes b0 b1 b2 b3, rest)
  | _ => none

/-- Decoding of serialized words: the first word's decoding and the bytes after it. Fewer than four bytes are no
transaction word (R53, R81; log entry 12). -/
def decodeBytes : List Byte → Option (Decoded × List Byte)
  | b0 :: b1 :: b2 :: b3 :: rest => some (decode (wordOfBytes b0 b1 b2 b3), rest)
  | _ => none

/-- The word of each transaction (R71 to R76). -/
def encode : Instr → Word
  | .ovf => 0x10000000#32
  | .wrap => 0x20000000#32
  | .edge c => 0x3000#16 ++ c
  | .pass cold lost => 0x10000000#30 ++ (BitVec.ofBool lost ++ BitVec.ofBool cold)
  | .rdreg reg => 0x2800000#27 ++ reg

/-- The transaction decoded from an instruction whose bits are `w`, bit 0 the least significant, bits at `nbits` and
above read as 0: it is serialized (R52) and given to the decoder (log entry 13). -/
def decodeTableWord (nbits w : Nat) : Option Instr :=
  match decodeBytes (bytesOfWord (BitVec.ofNat 32 (w % 2 ^ nbits))) with
  | some (.instr i, _) => some i
  | _ => none

end Sys2Proof
end

