-- ==== Sys2Proof/Machine/State.lean ====
section
/-! DEFINITION. The state of gpsdo-core: every register of 10_state.md, the configuration of R8, the words the
environment has yet to issue, and the outputs a run observes (R272). Plain data throughout. -/

namespace Sys2Proof.Machine

/-- The report strobes (R12, R200, R204, R205). -/
inductive Strobe where
  | edgeReport
  | windowReport
  | actuatorWrite
  deriving DecidableEq, Repr

/-- One output driven by a transaction (R12): a strobe, or the read data of RDREG. -/
inductive Output where
  | strobe (k : Strobe)
  | rdata (value : ReadData)
  deriving DecidableEq, Repr

/-- Reasons for the machine to stop with a fault. There are none: a rejected word is recorded in CMDERR and ERRCAUSE
and the block goes on (R241), the four fault conditions are modes (R244), and "no transaction stops the block" (R255).
Log entry 8 (safe: nothing the spec describes stops the block). -/
inductive Fault where
  deriving DecidableEq, Repr

/-- Why a launch is refused. No transaction of the machine answers a refusal. -/
inductive Refusal where
  /-- An instruction with no meaning yet; no arm of `exec` uses it. Safe: it stops. -/
  | notModelled (mnemonic : String)
  /-- Raised by `launch`: the configuration breaks R9 or the requirement of R203. Safe: the spec refuses it. -/
  | cfgNotAdmitted
  /-- Raised by `launch`: the state holds COUNTADD outside 1 to 65536 (R24, I19). Safe: the spec refuses it. -/
  | countAddIllegal
  /-- Raised by `launch`: the state holds DUTY = 0 (R37, I19). Safe: the spec refuses it. -/
  | dutyIllegal
  /-- Raised by `launch`: the state holds WINCNT outside -5 to 60 (R33, I19). Safe: the spec refuses it. -/
  | winCntIllegal
  /-- Raised by `launch`: the state holds LOCKCNT above 5 (R35, I19). Safe: the spec refuses it. -/
  | lockCntIllegal
  /-- Raised by `launch`: the state holds an ERRCAUSE code 4 to 15 (R242, I17). Safe: the spec refuses it. -/
  | errCauseIllegal
  /-- Raised by `launchMode`: a mode code 12 to 15 (R151, I18). Safe: the spec refuses it. -/
  | modeIllegal
  deriving DecidableEq, Repr

/-- The state. One field per register, under the spec's name; `cfg`, `words` and `trace` are the model's own fields
(log entries 1, 4 and 5). -/
structure State where
  /-- The configuration, fixed from reset onward (R8, R61). -/
  cfg : Cfg
  /-- The transaction words still to be issued, the next one first (R3, R21, R63). -/
  words : List Word
  /-- The outputs driven so far, the oldest first (R272). -/
  trace : List Output
  /-- COUNT, signed (R23). -/
  count : BitVec 64
  /-- COUNTADD, unsigned (R24). -/
  countAdd : BitVec 17
  /-- OVFPEND (R25). -/
  ovfPend : Bool
  /-- SAMPLE, signed (R26). -/
  sample : BitVec 64
  /-- PPSMISS, unsigned (R28). -/
  ppsMiss : BitVec 32
  /-- MODE (R30, R31). -/
  mode : Mode
  /-- WINSUM, signed (R32). -/
  winSum : BitVec 64
  /-- WINCNT, signed (R33). -/
  winCnt : BitVec 32
  /-- IHIST, signed (R34). -/
  iHist : BitVec 32
  /-- LOCKCNT, unsigned (R35). -/
  lockCnt : BitVec 8
  /-- MINNOADJ, unsigned (R36). -/
  minNoAdj : BitVec 32
  /-- DUTY, unsigned (R37). -/
  duty : BitVec 16
  /-- CMDERR (R39). -/
  cmdErr : Bool
  /-- ERRCAUSE (R39). -/
  errCause : BitVec 4
  /-- DIAG_SECERR, signed (R40). -/
  diagSecErr : BitVec 64
  /-- DIAG_WERR, signed (R40). -/
  diagWErr : BitVec 64
  /-- DIAG_P, signed (R40). -/
  diagP : BitVec 64
  /-- DIAG_I, signed (R40). -/
  diagI : BitVec 64
  /-- DIAG_ADJ, signed (R40). -/
  diagAdj : BitVec 64
  /-- DIAG_FLAGS (R41). -/
  diagFlags : BitVec 3
  deriving DecidableEq, Repr

/-- The reset state under a configuration (R260), with nothing issued and nothing output yet. -/
def State.resetWith (c : Cfg) : State where
  cfg := c
  words := []
  trace := []
  count := 0
  countAdd := 65536
  ovfPend := false
  sample := 0
  ppsMiss := 0
  mode := .start
  winSum := 0
  winCnt := 0
  iHist := 0
  lockCnt := 0
  minNoAdj := 0
  duty := BitVec.ofInt 16 c.dutyInit
  cmdErr := false
  errCause := 0
  diagSecErr := 0
  diagWErr := 0
  diagP := 0
  diagI := 0
  diagAdj := 0
  diagFlags := 0

/-- The machine right after reset (R260), under the spec's example configuration (DESIGN CHOICE, log entry 2). -/
def State.reset : State := State.resetWith Config.exampleCfg

end Sys2Proof.Machine
end

