-- ==== Sys2Proof/Machine/Operands.lean ====
section
/-! DEFINITION. Operand forms: what the operands of EDGE, PASS and RDREG stand for (R77, R22, R31, R123), and the codes
of modes and causes. -/

namespace Sys2Proof.Machine

/-- EDGE's operand as an integer, zero-extended and unscaled (R77). -/
def edgeValue (c : BitVec 16) : Int := c.toNat

/-- coldA = HAVE_OSC_COLD and COLD (R123). -/
def effectiveCold (cfg : Cfg) (cold : Bool) : Bool := cold && cfg.haveOscColdSignal

/-- lostA = HAVE_GPS_LOCK and LOST (R123). -/
def effectiveLost (cfg : Cfg) (lost : Bool) : Bool := lost && cfg.haveGpsLockSignal

/-- The register a number names (R22); numbers 19 to 31 are unassigned (R42). -/
def regName (reg : BitVec 5) : Option RegName :=
  match reg.toNat with
  | 0 => some .count
  | 1 => some .countAdd
  | 2 => some .sample
  | 3 => some .flags
  | 4 => some .ppsMiss
  | 5 => some .mode
  | 6 => some .winSum
  | 7 => some .winCnt
  | 8 => some .iHist
  | 9 => some .lockCnt
  | 10 => some .minNoAdj
  | 11 => some .duty
  | 12 => some .errCause
  | 13 => some .diagSecErr
  | 14 => some .diagWErr
  | 15 => some .diagP
  | 16 => some .diagI
  | 17 => some .diagAdj
  | 18 => some .diagFlags
  | _ => none

/-- The number of a register (R22). -/
def regNumber : RegName → BitVec 5
  | .count => 0
  | .countAdd => 1
  | .sample => 2
  | .flags => 3
  | .ppsMiss => 4
  | .mode => 5
  | .winSum => 6
  | .winCnt => 7
  | .iHist => 8
  | .lockCnt => 9
  | .minNoAdj => 10
  | .duty => 11
  | .errCause => 12
  | .diagSecErr => 13
  | .diagWErr => 14
  | .diagP => 15
  | .diagI => 16
  | .diagAdj => 17
  | .diagFlags => 18

/-- The code of a mode (R31). -/
def modeCode : Mode → BitVec 4
  | .start => 0
  | .checkErrors => 1
  | .oscCold => 2
  | .noOscClock => 3
  | .noGpsPps => 4
  | .noGpsLock => 5
  | .good => 6
  | .fastInit => 7
  | .fastWait => 8
  | .fast => 9
  | .slowInit => 10
  | .slow => 11

/-- The mode of a code (R31); codes 12 to 15 name none (R151). -/
def modeOfCode (code : BitVec 4) : Option Mode :=
  match code.toNat with
  | 0 => some .start
  | 1 => some .checkErrors
  | 2 => some .oscCold
  | 3 => some .noOscClock
  | 4 => some .noGpsPps
  | 5 => some .noGpsLock
  | 6 => some .good
  | 7 => some .fastInit
  | 8 => some .fastWait
  | 9 => some .fast
  | 10 => some .slowInit
  | 11 => some .slow
  | _ => none

/-- FAULT_MODES (R14). -/
def isFaultMode : Mode → Bool
  | .oscCold => true
  | .noOscClock => true
  | .noGpsPps => true
  | .noGpsLock => true
  | .start => false
  | .checkErrors => false
  | .good => false
  | .fastInit => false
  | .fastWait => false
  | .fast => false
  | .slowInit => false
  | .slow => false

/-- PPS_GATED_MODES (R14). -/
def isPpsGated : Mode → Bool
  | .fastInit => true
  | .fastWait => true
  | .fast => true
  | .slowInit => true
  | .slow => true
  | .start => false
  | .checkErrors => false
  | .good => false
  | .oscCold => false
  | .noOscClock => false
  | .noGpsPps => false
  | .noGpsLock => false

/-- The code of a cause (R242). -/
def causeCode : CmdCause → BitVec 4
  | .illegalOp => 1
  | .reservedNonzero => 2
  | .badRegister => 3

/-- The pattern a status table gives a mode (R203). -/
def statusPatternOf (table : StatusTable) : Mode → Pattern
  | .start => table.start
  | .checkErrors => table.checkErrors
  | .oscCold => table.oscCold
  | .noOscClock => table.noOscClock
  | .noGpsPps => table.noGpsPps
  | .noGpsLock => table.noGpsLock
  | .good => table.good
  | .fastInit => table.fastInit
  | .fastWait => table.fastWait
  | .fast => table.fast
  | .slowInit => table.slowInit
  | .slow => table.slow

end Sys2Proof.Machine
end

