-- ==== Sys2Proof/Machine/Flags.lean ====
section
/-! DEFINITION. The flags: SAMPLE_READY (R27), the FLAGS composite (R38), and the bits of DIAG_FLAGS (R41, R206). -/

namespace Sys2Proof.Machine

/-- SAMPLE_READY = (SAMPLE != 0) (R27). -/
def sampleReady (s : State) : Bool := decide (s.sample ≠ 0)

/-- FLAGS as RDREG reads it: CMDERR << 2 | SAMPLE_READY << 1 | OVFPEND, bits 63:3 zero (R38, R221). -/
def flagsValue (s : State) : ReadData :=
  (BitVec.ofBool s.cmdErr ++ BitVec.ofBool (sampleReady s) ++ BitVec.ofBool s.ovfPend).setWidth 64

/-- Every PASS first writes 0 into DIAG_FLAGS (R206). -/
def clearDiagFlags (s : State) : State := { s with diagFlags := 0 }

/-- DIAG_FLAGS with EDGE_RPT set, bit 0 (R41, R204). -/
def withEdgeRpt (f : BitVec 3) : BitVec 3 := f ||| 0b001#3

/-- DIAG_FLAGS with WIN_RPT set, bit 1 (R41, R205). -/
def withWinRpt (f : BitVec 3) : BitVec 3 := f ||| 0b010#3

/-- DIAG_FLAGS with DUTY_WR set, bit 2 (R41, R200). -/
def withDutyWr (f : BitVec 3) : BitVec 3 := f ||| 0b100#3

end Sys2Proof.Machine
end

