-- ==== Sys2Proof/Machine/Ops.lean ====
section
/-! DEFINITION. The shared operations: the arithmetic of R11, the outputs of R12, a register read (R221), recording a
command error (R241), and entry into and recovery from a fault mode (R141, R145 to R148, R247, R248). -/

namespace Sys2Proof.Machine

/-- clamp(a, lo, hi) of R11. -/
def clamp (a lo hi : Int) : Int := if a < lo then lo else if hi < a then hi else a

/-- |a| of R11. -/
def absInt (a : Int) : Int := if a < 0 then -a else a

/-- satinc_u32 of R11, stored into 32 bits. -/
def satIncU32 (v : BitVec 32) : BitVec 32 := BitVec.ofNat 32 (min (v.toNat + 1) 4294967295)

/-- satinc_s32 of R11, stored into 32 bits. -/
def satIncS32 (v : BitVec 32) : BitVec 32 := BitVec.ofInt 32 (min (v.toInt + 1) 2147483647)

/-- satdec_s32 of R11, stored into 32 bits. -/
def satDecS32 (v : BitVec 32) : BitVec 32 := BitVec.ofInt 32 (max (v.toInt - 1) (-2147483648))

/-- Drives an output of the current transaction (R12). -/
def drive (o : Output) (s : State) : State := { s with trace := s.trace ++ [o] }

/-- ReadValue (R221): the whole register, sign-extended where it is declared signed, zero-extended where unsigned. -/
def readValue (s : State) : RegName → ReadData
  | .count => s.count
  | .countAdd => s.countAdd.setWidth 64
  | .sample => s.sample
  | .flags => flagsValue s
  | .ppsMiss => s.ppsMiss.setWidth 64
  | .mode => (modeCode s.mode).setWidth 64
  | .winSum => s.winSum
  | .winCnt => s.winCnt.signExtend 64
  | .iHist => s.iHist.signExtend 64
  | .lockCnt => s.lockCnt.setWidth 64
  | .minNoAdj => s.minNoAdj.setWidth 64
  | .duty => s.duty.setWidth 64
  | .errCause => s.errCause.setWidth 64
  | .diagSecErr => s.diagSecErr
  | .diagWErr => s.diagWErr
  | .diagP => s.diagP
  | .diagI => s.diagI
  | .diagAdj => s.diagAdj
  | .diagFlags => s.diagFlags.setWidth 64

/-- raise CmdError(code) (R241): the exception of a rejected word. The first cause is kept, CMDERR is set, and nothing
else changes. Nothing but reset undoes it. -/
def raiseCmdError (cause : CmdCause) (s : State) : State :=
  { s with
    errCause := if s.cmdErr then s.errCause else causeCode cause
    cmdErr := true }

/-- Fault entry (R141, R247): writes MODE only. -/
def enterFaultMode (m : Mode) (s : State) : State := { s with mode := m }

/-- Recovery of a fault mode (R145 to R148, R248): back to CHECKERRORS when the fault is no longer detected. -/
def recoverUnless (detected : Bool) (s : State) : State :=
  if detected then s else { s with mode := .checkErrors }

end Sys2Proof.Machine
end

