-- ==== Sys2Proof/Machine/Reports.lean ====
section
/-! DEFINITION. The actuator write, the block's outputs and the diagnostic reports (44_actuator_and_reports.md). -/

namespace Sys2Proof.Machine

/-- ApplyAdjust(adj) (R200): DUTY is the exact sum clamped to [1, 65535]; DUTY_WR and ACTUATOR_WRITE mark the write. -/
def applyAdjust (adj : Int) (s : State) : State :=
  drive (.strobe .actuatorWrite) { s with
    duty := BitVec.ofInt 16 (clamp ((s.duty.toNat : Int) + adj) Config.dutyMin Config.dutyMax)
    diagFlags := withDutyWr s.diagFlags }

/-- EdgeReport(s) (R204): the raw one-second error, nominal minus measured. -/
def edgeReport (sample : Int) (s : State) : State :=
  drive (.strobe .edgeReport) { s with
    diagSecErr := BitVec.ofInt 64 (Config.nominalHz - sample)
    diagFlags := withEdgeRpt s.diagFlags }

/-- WindowReport(error, p, i, adj) (R205). -/
def windowReport (error p i adj : Int) (s : State) : State :=
  drive (.strobe .windowReport) { s with
    diagWErr := BitVec.ofInt 64 error
    diagP := BitVec.ofInt 64 p
    diagI := BitVec.ofInt 64 i
    diagAdj := BitVec.ofInt 64 adj
    diagFlags := withWinRpt s.diagFlags }

/-- The PWM output: the value of DUTY at every instant (R201). -/
def pwmOutput (s : State) : BitVec 16 := s.duty

/-- The status output: statusPattern(MODE) (R203). -/
def statusOutput (s : State) : Pattern := statusPatternOf s.cfg.statusPattern s.mode

/-- The values of an edge line, in order: the raw one-second error (R205). -/
def edgeLine (s : State) : List Int := [s.diagSecErr.toInt]

/-- The values of a window line, in order: error, P, I, Ihist, adjust, duty, as they stand at the end of the pass
(R205). -/
def windowLine (s : State) : List Int :=
  [s.diagWErr.toInt, s.diagP.toInt, s.diagI.toInt, s.iHist.toInt, s.diagAdj.toInt, s.duty.toNat]

end Sys2Proof.Machine
end

