-- ==== Sys2Proof/Machine/SampleExtractor.lean ====
section
/-! DEFINITION. PASS phase 1 (41_sample_extractor.md): the atomic snapshot, and what a pass hands to its later phases. -/

namespace Sys2Proof.Machine

/-- What one PASS computes before phase 2 (R120, R121, R123): whether a sample is ready, the sample, the effective fault
signals, COUNT, and PPSMISS as the snapshot leaves it. -/
structure PassInputs where
  ready : Bool
  sample : Int
  coldA : Bool
  lostA : Bool
  cnt : Int
  miss : Int
  deriving DecidableEq, Repr

/-- The values of a pass over state `s`, read in one atomic snapshot (R121): a ready sample counts as having cleared
PPSMISS. -/
def passInputs (cold lost : Bool) (s : State) : PassInputs where
  ready := sampleReady s
  sample := s.sample.toInt
  coldA := effectiveCold s.cfg cold
  lostA := effectiveLost s.cfg lost
  cnt := s.count.toInt
  miss := if sampleReady s then 0 else s.ppsMiss.toNat

/-- The writes of the snapshot (R121): a non-zero SAMPLE is cleared, and PPSMISS with it. -/
def consumeSample (s : State) : State :=
  if sampleReady s then { s with sample := 0, ppsMiss := 0 } else s

/-- Phase 1 of PASS (R120): DIAG_FLAGS cleared, the snapshot, and the edge report of a ready sample (R204). -/
def passPhaseOne (s : State) : State :=
  let s0 := consumeSample (clearDiagFlags s)
  if sampleReady s then edgeReport s.sample.toInt s0 else s0

end Sys2Proof.Machine
end

