-- ==== Sys2Proof/Machine/FaultMonitor.lean ====
section
/-! DEFINITION. The Fault Monitor (42_fault_monitor.md): detection, fault entry (PASS phase 2), and the handlers of the
modes that are not PPS-gated. -/

namespace Sys2Proof.Machine

/-- D_OSCCOLD (R140). -/
def detectOscCold (p : PassInputs) : Bool := p.coldA

/-- D_NOGPSLOCK (R140). -/
def detectNoGpsLock (p : PassInputs) : Bool := p.lostA

/-- D_NOGPSPPS (R140): strict. -/
def detectNoGpsPps (p : PassInputs) : Bool := decide (Config.noPpsThreshold < p.cnt)

/-- D_NOOSCCLOCK (R140): strict. -/
def detectNoOscClock (p : PassInputs) : Bool := decide (Config.ppsMissLimit < p.miss)

/-- FaultEntry (R141): the mode a pass enters by a fault, if any. A fault mode checks only its own recovery; the priority
is OSCCOLD, NOGPSLOCK, NOGPSPPS, NOOSCCLOCK. -/
def faultEntry (p : PassInputs) (mode : Mode) : Option Mode :=
  if isFaultMode mode then none
  else if detectOscCold p then some .oscCold
  else if detectNoGpsLock p then some .noGpsLock
  else if detectNoGpsPps p then some .noGpsPps
  else if detectNoOscClock p then some .noOscClock
  else none

/-- START (R142). -/
def handleStart (s : State) : State := { s with mode := .good }

/-- CHECKERRORS (R143). -/
def handleCheckErrors (s : State) : State := { s with mode := .good }

/-- GOOD (R144). -/
def handleGood (s : State) : State := { s with mode := .fastInit }

/-- OSCCOLD (R145). -/
def handleOscCold (p : PassInputs) (s : State) : State := recoverUnless (detectOscCold p) s

/-- NOGPSLOCK (R146). -/
def handleNoGpsLock (p : PassInputs) (s : State) : State := recoverUnless (detectNoGpsLock p) s

/-- NOGPSPPS (R147). -/
def handleNoGpsPps (p : PassInputs) (s : State) : State := recoverUnless (detectNoGpsPps p) s

/-- NOOSCCLOCK (R148). -/
def handleNoOscClock (p : PassInputs) (s : State) : State := recoverUnless (detectNoOscClock p) s

end Sys2Proof.Machine
end

