-- ==== Sys2Proof/Machine/ControlLoop.lean ====
section
/-! DEFINITION. The Control-Loop State Machine (43_control_loop.md): the handlers of FASTINIT, FASTWAIT, FAST, SLOWINIT
and SLOW. -/

namespace Sys2Proof.Machine

/-- FASTINIT (R161). -/
def handleFastInit (p : PassInputs) (s : State) : State :=
  if p.ready then
    { s with winCnt := BitVec.ofInt 32 (-Config.fastSettle), lockCnt := 0, mode := .fastWait }
  else s

/-- FASTWAIT (R162). -/
def handleFastWait (p : PassInputs) (s : State) : State :=
  if p.ready then
    let w := s.winCnt.toInt + 1
    if 0 ≤ w then { s with winSum := 0, winCnt := 0, mode := .fast }
    else { s with winCnt := BitVec.ofInt 32 w }
  else s

/-- One sample of a window of `size` samples, shared by FAST (F1, F2: R164, R165) and SLOW (S1, S2: R175, R176): a
negative WINCNT discards the sample, and otherwise the sample is accumulated. It gives the state and, when the window
closes, the sum. -/
def windowStep (size sample : Int) (s : State) : State × Option Int :=
  let w := s.winCnt.toInt
  if w < 0 then ({ s with winCnt := BitVec.ofInt 32 (w + 1) }, none)
  else
    let sum := BitVec.ofInt 64 (s.winSum.toInt + sample)
    if w + 1 < size then ({ s with winSum := sum, winCnt := BitVec.ofInt 32 (w + 1) }, none)
    else ({ s with winSum := 0, winCnt := 0 }, some sum.toInt)

/-- The clamp of an adjustment to plus or minus ADJ_LIMIT (F7 and S8: R170, R182). -/
def clampAdjust (a : Int) : Int := clamp a (-Config.adjLimit) Config.adjLimit

/-- An applied adjustment: the actuator write, and WINCNT set to skip the next sample (F8 and S9: R171, R183). -/
def applyAndSettle (adj : Int) (s : State) : State :=
  { applyAdjust adj s with winCnt := BitVec.ofInt 32 (-Config.adjustSettle) }

/-- F5 and F6 (R168, R169): the clamped error times the truncated quotient of the gain. -/
def fastProportional (cfg : Cfg) (error : Int) : Int :=
  cfg.fastGain / 8 * clamp error (-cfg.fastMaxError) cfg.fastMaxError

/-- F5 to F8 (R168 to R171) and the window report. -/
def fastAdjust (error : Int) (s : State) : State :=
  let p := fastProportional s.cfg error
  let adj := clampAdjust p
  windowReport error p 0 adj (if adj ≠ 0 then applyAndSettle adj s else s)

/-- F4 (R167), the lock detection of a closed FAST window, and what follows it. -/
def fastClose (error : Int) (s : State) : State :=
  if absInt error ≤ s.cfg.fastErrorBand then
    let s1 := { s with lockCnt := BitVec.ofInt 8 ((s.lockCnt.toNat : Int) + 1) }
    if Config.fastLockWindows ≤ s1.lockCnt.toNat then
      windowReport error 0 0 0 { s1 with mode := .slowInit }
    else fastAdjust error s1
  else fastAdjust error { s with lockCnt := 0 }

/-- FAST (R163). -/
def handleFast (p : PassInputs) (s : State) : State :=
  if p.ready then
    match windowStep Config.sampleSeconds p.sample s with
    | (s1, none) => s1
    | (s1, some sum) => fastClose (Config.sampleSeconds * Config.nominalHz - sum) s1
  else s

/-- SLOWINIT (R173). -/
def handleSlowInit (p : PassInputs) (s : State) : State :=
  if p.ready then
    { s with winSum := 0, winCnt := 0, iHist := 0, minNoAdj := 0, mode := .slow }
  else s

/-- S5 (R179): the proportional term. -/
def slowProportional (cfg : Cfg) (error : Int) : Int :=
  if cfg.slowErrorBandP < absInt error then error * cfg.slowGainP else 0

/-- S6 (R180): the next IHIST; the increment test is taken first. -/
def nextIHist (error : Int) (h : BitVec 32) : BitVec 32 :=
  if 0 ≤ error ∧ 0 ≤ h.toInt then satIncS32 h
  else if error ≤ 0 ∧ h.toInt ≤ 0 then satDecS32 h
  else 0

/-- S7 (R181): the integral term, from IHIST as S6 has just written it. -/
def slowIntegral (cfg : Cfg) (h : BitVec 32) : Int :=
  if cfg.slowErrorBandI < absInt h.toInt then cfg.slowGainI * h.toInt else 0

/-- S9 (R183). -/
def slowApply (adj : Int) (s : State) : State :=
  if adj ≠ 0 then { applyAndSettle adj s with minNoAdj := 0 }
  else { s with minNoAdj := satIncU32 s.minNoAdj }

/-- S5 to S9 (R179 to R183) and the window report. -/
def slowAdjust (error : Int) (s : State) : State :=
  let pTerm := slowProportional s.cfg error
  let s1 := { s with iHist := nextIHist error s.iHist }
  let iTerm := slowIntegral s.cfg s1.iHist
  let adj := clampAdjust (pTerm + iTerm)
  windowReport error pTerm iTerm adj (slowApply adj s1)

/-- S4 (R178), the gross-error demotion of a closed SLOW window, and what follows it. -/
def slowClose (error : Int) (s : State) : State :=
  if Config.slowUnlockError < absInt error then windowReport error 0 0 0 { s with mode := .fastInit }
  else slowAdjust error s

/-- SLOW (R174). -/
def handleSlow (p : PassInputs) (s : State) : State :=
  if p.ready then
    match windowStep Config.sampleMinute p.sample s with
    | (s1, none) => s1
    | (s1, some sum) => slowClose (Config.sampleMinute * Config.nominalHz - sum) s1
  else s

end Sys2Proof.Machine
end

