-- ==== Sys2Proof/Machine/MainPass.lean ====
section
/-! DEFINITION. PASS (R120): phase 1, then fault entry, then the handler of the mode. -/

namespace Sys2Proof.Machine

/-- Handler[MODE] (R120 phase 3). -/
def handler (p : PassInputs) (s : State) : State :=
  match s.mode with
  | .start => handleStart s
  | .checkErrors => handleCheckErrors s
  | .oscCold => handleOscCold p s
  | .noOscClock => handleNoOscClock p s
  | .noGpsPps => handleNoGpsPps p s
  | .noGpsLock => handleNoGpsLock p s
  | .good => handleGood s
  | .fastInit => handleFastInit p s
  | .fastWait => handleFastWait p s
  | .fast => handleFast p s
  | .slowInit => handleSlowInit p s
  | .slow => handleSlow p s

/-- Phases 2 and 3 of PASS (R120): a fault entry ends the pass, and otherwise the mode's handler runs. -/
def passPhasesTwoThree (p : PassInputs) (s : State) : State :=
  match faultEntry p s.mode with
  | some m => enterFaultMode m s
  | none => handler p s

/-- PASS COLD,LOST (R120), as one atomic transaction. -/
def execPass (cold lost : Bool) (s : State) : Host.Outcome State Fault Refusal :=
  .next (passPhasesTwoThree (passInputs cold lost s) (passPhaseOne s))

end Sys2Proof.Machine
end

