-- ==== Sys2Proof/Machine/RegisterRead.lean ====
section
/-! DEFINITION. RDREG (45_register_read.md). -/

namespace Sys2Proof.Machine

/-- RDREG REG (R220, R222): drives the whole register as read data, and changes nothing; an unassigned number is command
error 3 and drives nothing. -/
def execRdreg (reg : BitVec 5) (s : State) : Host.Outcome State Fault Refusal :=
  match regName reg with
  | some r => .next (drive (.rdata (readValue s r)) s)
  | none => .next (raiseCmdError .badRegister s)

end Sys2Proof.Machine
end

