-- ==== Sys2Proof/Machine/TickAccumulator.lean ====
section
/-! DEFINITION. The Tick Accumulator's three transactions: OVF, WRAP and EDGE (40_tick_accumulator.md). -/

namespace Sys2Proof.Machine

/-- OVF (R101): latches the overflow; a second one before its service is coalesced (R105). -/
def execOvf (s : State) : Host.Outcome State Fault Refusal := .next { s with ovfPend := true }

/-- WRAP (R102): services a pending overflow, and does nothing when none is pending. -/
def execWrap (s : State) : Host.Outcome State Fault Refusal :=
  if s.ovfPend then
    .next { s with
      count := BitVec.ofInt 64 (s.count.toInt + s.countAdd.toNat)
      countAdd := BitVec.ofInt 17 Config.wrapSize
      ovfPend := false }
  else .next s

/-- EDGE C (R103): the sample is COUNT + C, whatever OVFPEND held; a pending overflow is cleared and not added. -/
def execEdge (c : BitVec 16) (s : State) : Host.Outcome State Fault Refusal :=
  .next { s with
    ovfPend := false
    sample := BitVec.ofInt 64 (s.count.toInt + edgeValue c)
    countAdd := BitVec.ofInt 17 (Config.wrapSize - edgeValue c)
    count := 0
    ppsMiss := satIncU32 s.ppsMiss }

end Sys2Proof.Machine
end

