-- ==== Sys2Proof/Machine/Dispatch.lean ====
section
/-! DEFINITION. One arm for each transaction, each a direct call of its meaning. -/

namespace Sys2Proof.Machine

def exec (i : Instr) (s : State) : Host.Outcome State Fault Refusal :=
  match i with
  | .ovf => Sys2Proof.Machine.execOvf s
  | .wrap => Sys2Proof.Machine.execWrap s
  | .edge c => Sys2Proof.Machine.execEdge c s
  | .pass cold lost => Sys2Proof.Machine.execPass cold lost s
  | .rdreg reg => Sys2Proof.Machine.execRdreg reg s

end Sys2Proof.Machine
end

