-- ==== Sys2Proof/Machine/Fetch.lean ====
section
/-! DEFINITION. How a word reaches the block: the next word of the environment's order (R3, R21, R58), checked before
any rule of its opcode runs (R100). -/

namespace Sys2Proof.Machine

/-- The next word to be issued and the state without it, if one is left. -/
def takeWord (s : State) : Option (Word × State) :=
  match s.words with
  | [] => none
  | w :: rest => some (w, { s with words := rest })

/-- One word given to the block (R100): its transaction, or the command error of its rejection (R79, R241). -/
def issueWord (w : Word) (s : State) : Host.Outcome State Fault Refusal :=
  match decode w with
  | .instr i => exec i s
  | .rejected cause => .next (raiseCmdError cause s)

end Sys2Proof.Machine
end

