-- ==== Sys2Proof/Machine/Step.lean ====
section
/-! DEFINITION. One step of the machine: the next word of the environment's order, as one whole transaction. -/

namespace Sys2Proof.Machine

/-- One step: the next word is taken and issued. Where no word is left the block holds its state, since only a
transaction changes it (R3; log entry 4). -/
def step (s : State) : Host.Outcome State Fault Refusal :=
  match takeWord s with
  | none => .next s
  | some (w, s1) => issueWord w s1

/-- The state with the word of `nbits` bits `w` (higher bits 0) placed as the next one the environment issues; the words
already waiting follow it (log entries 4 and 13). -/
def State.withFetchWord (s : State) (nbits w : Nat) : State :=
  { s with words := BitVec.ofNat 32 (w % 2 ^ nbits) :: s.words }

end Sys2Proof.Machine
end

