-- ==== Sys2Proof/Machine/Assembler.lean ====
section
/-! DEFINITION. The assembler of R82 and R83: an assembly line becomes the transactions it stands for. -/

namespace Sys2Proof.Machine

/-- `n` repetitions of the pair OVF, WRAP (R83 TICKWRAPS). -/
def tickWrapPairs : Nat → List Instr
  | 0 => []
  | n + 1 => .ovf :: .wrap :: tickWrapPairs n

/-- The transactions of a line whose operands are in range (R82, R83). -/
def expandLine : AsmLine → List Instr
  | .ovf => [.ovf]
  | .wrap => [.wrap]
  | .edge c => [.edge (BitVec.ofNat 16 c)]
  | .pass cold lost => [.pass (decide (cold = 1)) (decide (lost = 1))]
  | .passAlone => [.pass false false]
  | .rdregNumber reg => [.rdreg (BitVec.ofNat 5 reg)]
  | .rdregName reg => [.rdreg (regNumber reg)]
  | .tickWraps n => tickWrapPairs n
  | .idle => [.pass false false]
  | .second n c => tickWrapPairs n ++ [.edge (BitVec.ofNat 16 c), .pass false false]

/-- The transactions of a line; a line with an operand out of range is rejected and not encoded (R82). -/
def assemble (line : AsmLine) : Option (List Instr) :=
  if line.wellFormed then some (expandLine line) else none

/-- The words of a line. -/
def assembleWords (line : AsmLine) : Option (List Word) :=
  (assemble line).map (List.map encode)

end Sys2Proof.Machine
end

