-- ==== Sys2Proof/Machine/Launch.lean ====
section
/-! DEFINITION. Launching the model: the configurations R9 and R203 admit, and the launch states the spec refuses (R151,
I17, I18, I19). A launch is not a transaction, and no step makes these checks again (log entry 7). -/

namespace Sys2Proof.Machine

/-- R9 and R203: no OPEN or tunable integer is negative, DUTY_INIT lies in [1, 65535], and FASTWAIT and FAST show
ACQUIRING. -/
def cfgAdmitted (c : Cfg) : Bool :=
  decide (0 ≤ c.fastGain) && decide (0 ≤ c.fastErrorBand) && decide (0 ≤ c.fastMaxError)
    && decide (0 ≤ c.slowGainP) && decide (0 ≤ c.slowErrorBandP)
    && decide (0 ≤ c.slowGainI) && decide (0 ≤ c.slowErrorBandI)
    && decide (1 ≤ c.dutyInit) && decide (c.dutyInit ≤ 65535)
    && decide (c.statusPattern.fastWait = .acquiring) && decide (c.statusPattern.fast = .acquiring)

/-- The launch of a state: refused by name where the spec refuses it, else the state itself. -/
def launch (s : State) : Host.Outcome State Fault Refusal :=
  if cfgAdmitted s.cfg = false then .refused .cfgNotAdmitted
  else if s.countAdd.toNat < 1 ∨ 65536 < s.countAdd.toNat then .refused .countAddIllegal
  else if s.duty.toNat = 0 then .refused .dutyIllegal
  else if s.winCnt.toInt < -5 ∨ 60 < s.winCnt.toInt then .refused .winCntIllegal
  else if 5 < s.lockCnt.toNat then .refused .lockCntIllegal
  else if 3 < s.errCause.toNat then .refused .errCauseIllegal
  else .next s

/-- The launch of a state whose MODE is given as a 4-bit code: a code 12 to 15 is refused (R151, I18). -/
def launchMode (code : BitVec 4) (s : State) : Host.Outcome State Fault Refusal :=
  match modeOfCode code with
  | some m => launch { s with mode := m }
  | none => .refused .modeIllegal

end Sys2Proof.Machine
end

