-- ==== Sys2Proof/Safety.lean ====
section
/-! DEFINITION. The terms claims about gpsdo-core use: runs, reachable states, legal states, and the state changes of the
spec written out without the meanings' own helpers. -/

namespace Sys2Proof.Machine

/-- The transactions of a list, each run on the state the one before it left (R58). -/
def execAll : List Instr → State → Host.Outcome State Fault Refusal
  | [], s => .next s
  | i :: rest, s =>
    match exec i s with
    | .next t => execAll rest t
    | .fault r => .fault r
    | .refused r => .refused r

/-- A state some run reaches from reset, under some admitted configuration and some order of words (R63, R272). -/
inductive Reachable : State → Prop where
  | launched (c : Cfg) (admitted : cfgAdmitted c = true) (ws : List Word) :
      Reachable { State.resetWith c with words := ws }
  | stepped (s t : State) (reached : Reachable s) (taken : step s = .next t) : Reachable t

/-- "No fault recorded" (R241). -/
abbrev State.NoFaultRecorded (s : State) : Prop := s.cmdErr = false

/-- A quiescent end of a run: no overflow and no sample in flight (R272). -/
abbrev State.Quiescent (s : State) : Prop := s.ovfPend = false ∧ s.sample = 0

/-- The legal values of the registers (R24, R33, R35, R37, R39, R242) under an admitted configuration (R9). The clause on
the modes FASTWAIT and FAST is what keeps LOCKCNT at 5 or below (R167). -/
structure State.Legal (s : State) : Prop where
  cfg : cfgAdmitted s.cfg = true
  countAdd : 1 ≤ s.countAdd.toNat ∧ s.countAdd.toNat ≤ 65536
  duty : 1 ≤ s.duty.toNat
  winCnt : -5 ≤ s.winCnt.toInt ∧ s.winCnt.toInt ≤ 60
  lockCnt : s.lockCnt.toNat ≤ 5
  lockOpen : s.mode = .fastWait ∨ s.mode = .fast → s.lockCnt.toNat ≤ 4
  errCause : s.errCause.toNat ≤ 3
  errRecord : s.cmdErr = true ↔ s.errCause ≠ 0

/-- What WINCNT and LOCKCNT hold in the modes that count with them (R162, R164, R167, R173, R175). -/
structure State.WindowPhase (s : State) : Prop where
  fastWait : s.mode = .fastWait → -5 ≤ s.winCnt.toInt ∧ s.winCnt.toInt ≤ -1 ∧ s.lockCnt.toNat = 0
  fast : s.mode = .fast → -1 ≤ s.winCnt.toInt ∧ s.winCnt.toInt ≤ 7 ∧ s.lockCnt.toNat ≤ 4
  slowInit : s.mode = .slowInit → s.lockCnt.toNat = 5
  slow : s.mode = .slow → -1 ≤ s.winCnt.toInt ∧ s.winCnt.toInt ≤ 59 ∧ s.lockCnt.toNat = 5

/-- The state a PASS's phase 1 leaves (R121, R204, R206), written out. -/
def State.snapped (s : State) : State :=
  if s.sample = 0 then { s with diagFlags := 0 }
  else { s with
    sample := 0
    ppsMiss := 0
    diagSecErr := BitVec.ofInt 64 (10000000 - s.sample.toInt)
    diagFlags := 1
    trace := s.trace ++ [.strobe .edgeReport] }

/-- The oscillator-cold fault as a pass sees it (R123, R140). -/
abbrev State.ColdFault (s : State) (cold : Bool) : Prop := s.cfg.haveOscColdSignal = true ∧ cold = true

/-- The GPS-lock-lost fault as a pass sees it (R123, R140). -/
abbrev State.LostFault (s : State) (lost : Bool) : Prop := s.cfg.haveGpsLockSignal = true ∧ lost = true

/-- The missing-1PPS fault as a pass sees it (R140). -/
abbrev State.PpsFault (s : State) : Prop := 15000000 < s.count.toInt

/-- The missing-oscillator fault as a pass sees it: PPSMISS after the snapshot (R121, R140). -/
abbrev State.ClockFault (s : State) : Prop := s.sample = 0 ∧ 14 < s.ppsMiss.toNat

/-- No fault is detected by a pass with these signals. -/
structure State.NoFault (s : State) (cold lost : Bool) : Prop where
  cold : ¬ s.ColdFault cold
  lost : ¬ s.LostFault lost
  pps : ¬ s.PpsFault
  clock : ¬ s.ClockFault

/-- WINSUM with the sample of SAMPLE added (F2 and S2: R165, R176). -/
def State.nextWinSum (s : State) : BitVec 64 := BitVec.ofInt 64 (s.winSum.toInt + s.sample.toInt)

/-- The error of a FAST window that closes on the sample of SAMPLE (R166). -/
def State.fastError (s : State) : Int := 80000000 - s.nextWinSum.toInt

/-- The error of a SLOW window that closes on the sample of SAMPLE (R177). -/
def State.slowError (s : State) : Int := 600000000 - s.nextWinSum.toInt

/-- The window report of R205 written out: the four values, WIN_RPT, and the strobe. -/
def State.reported (s : State) (error p i adj : Int) : State :=
  { s with
    diagWErr := BitVec.ofInt 64 error
    diagP := BitVec.ofInt 64 p
    diagI := BitVec.ofInt 64 i
    diagAdj := BitVec.ofInt 64 adj
    diagFlags := s.diagFlags ||| 2
    trace := s.trace ++ [.strobe .windowReport] }

/-- The actuator write of R200 written out, with the settle of R171 and R183. -/
def State.adjusted (s : State) (adj : Int) : State :=
  { s with
    duty := BitVec.ofInt 16 (max 1 (min 65535 ((s.duty.toNat : Int) + adj)))
    diagFlags := s.diagFlags ||| 4
    trace := s.trace ++ [.strobe .actuatorWrite]
    winCnt := BitVec.ofInt 32 (-1) }

/-- The modes one PASS may lead to from a mode: itself where a handler waits, its handler's target, and from every mode
that is no fault mode the four fault modes (R141 to R148, R160 to R174). -/
def successors : Mode → List Mode
  | .start => [.good, .oscCold, .noGpsLock, .noGpsPps, .noOscClock]
  | .checkErrors => [.good, .oscCold, .noGpsLock, .noGpsPps, .noOscClock]
  | .good => [.fastInit, .oscCold, .noGpsLock, .noGpsPps, .noOscClock]
  | .oscCold => [.oscCold, .checkErrors]
  | .noGpsLock => [.noGpsLock, .checkErrors]
  | .noGpsPps => [.noGpsPps, .checkErrors]
  | .noOscClock => [.noOscClock, .checkErrors]
  | .fastInit => [.fastInit, .fastWait, .oscCold, .noGpsLock, .noGpsPps, .noOscClock]
  | .fastWait => [.fastWait, .fast, .oscCold, .noGpsLock, .noGpsPps, .noOscClock]
  | .fast => [.fast, .slowInit, .oscCold, .noGpsLock, .noGpsPps, .noOscClock]
  | .slowInit => [.slowInit, .slow, .oscCold, .noGpsLock, .noGpsPps, .noOscClock]
  | .slow => [.slow, .fastInit, .oscCold, .noGpsLock, .noGpsPps, .noOscClock]

/-- The transactions that touch the Tick Accumulator (R43). -/
def isTickEvent : Instr → Bool
  | .ovf => true
  | .wrap => true
  | .edge _ => true
  | .pass _ _ => false
  | .rdreg _ => false

/-- OP of a word is 0x0 or 0x6 to 0xF (R79). -/
abbrev IllegalOpWord (w : Word) : Prop := w.toNat / 2 ^ 28 = 0 ∨ 6 ≤ w.toNat / 2 ^ 28

/-- A word of a defined OP with a reserved bit set: w[27:0] for OVF and WRAP, w[27:16] for EDGE, w[27:2] for PASS and
w[27:5] for RDREG (R79). -/
abbrev ReservedSetWord (w : Word) : Prop :=
  (w.toNat / 2 ^ 28 = 1 ∧ w.toNat % 2 ^ 28 ≠ 0)
    ∨ (w.toNat / 2 ^ 28 = 2 ∧ w.toNat % 2 ^ 28 ≠ 0)
    ∨ (w.toNat / 2 ^ 28 = 3 ∧ w.toNat / 2 ^ 16 % 2 ^ 12 ≠ 0)
    ∨ (w.toNat / 2 ^ 28 = 4 ∧ w.toNat / 2 ^ 2 % 2 ^ 26 ≠ 0)
    ∨ (w.toNat / 2 ^ 28 = 5 ∧ w.toNat / 2 ^ 5 % 2 ^ 23 ≠ 0)

/-- An RDREG word with no reserved bit set and an unassigned number (R222). -/
abbrev BadRegisterWord (w : Word) : Prop :=
  w.toNat / 2 ^ 28 = 5 ∧ w.toNat / 2 ^ 5 % 2 ^ 23 = 0 ∧ 19 ≤ w.toNat % 2 ^ 5

/-- The command-error record of R241 written out: the first code is kept, and nothing else changes. -/
def State.errorRecorded (s : State) (code : BitVec 4) : State :=
  { s with cmdErr := true, errCause := if s.cmdErr = true then s.errCause else code }

/-- The source's wrap-detection recipe on 16-bit values (R202): an addition whose 16-bit result is below the operand
signals overflow, a subtraction whose result is above it signals underflow. -/
def wrapRecipe (duty : BitVec 16) (adj : Int) : BitVec 16 :=
  let sum := duty + BitVec.ofInt 16 adj
  if 0 < adj then (if sum.toNat < duty.toNat then 65535 else sum)
  else (if duty.toNat < sum.toNat then 1 else sum)

/-- A ready sample placed in the latch, as an EDGE would leave it. -/
def State.deliver (s : State) (v : BitVec 64) : State := { s with sample := v }

/-- One `PASS 0,0` after each of the given samples is placed in the latch. -/
def passEach : List (BitVec 64) → State → Host.Outcome State Fault Refusal
  | [], s => .next s
  | v :: rest, s =>
    match exec (.pass false false) (s.deliver v) with
    | .next t => passEach rest t
    | .fault r => .fault r
    | .refused r => .refused r

/-- The errors of the SLOW windows that close while one `PASS 0,0` is run on each of the given samples (R177), in their
order. -/
def slowErrors : List (BitVec 64) → State → List Int
  | [], _ => []
  | v :: rest, s =>
    match exec (.pass false false) (s.deliver v) with
    | .next t =>
      if s.mode = .slow ∧ 59 ≤ s.winCnt.toInt then (s.deliver v).slowError :: slowErrors rest t else slowErrors rest t
    | .fault _ => []
    | .refused _ => []

end Sys2Proof.Machine
end

