-- ==== Sys2Proof/Certificates/Slice0/Obligations.lean ====
section
/-! DEFINITION. The statements for the provers, each from a numbered rule of spec/ or derived from the sections its entry
in OBLIGATIONS.json cites. Statements range over every state, and so over every configuration and every order of words. -/

open Sys2Proof Sys2Proof.Machine

/-! ### Reset and launch -/

/-- R260: every register's reset value, for every configuration R9 admits. -/
def Obligations.ResetLoadsTheResetValues : Prop :=
  ∀ (c : Cfg), cfgAdmitted c = true → ∀ s : State, s = State.resetWith c →
    s.count.toInt = 0 ∧ s.countAdd.toNat = 65536 ∧ s.ovfPend = false ∧ s.sample.toInt = 0 ∧ s.ppsMiss.toNat = 0
      ∧ s.mode = .start ∧ s.winSum.toInt = 0 ∧ s.winCnt.toInt = 0 ∧ s.iHist.toInt = 0 ∧ s.lockCnt.toNat = 0
      ∧ s.minNoAdj.toNat = 0 ∧ (s.duty.toNat : Int) = c.dutyInit ∧ s.cmdErr = false ∧ s.errCause.toNat = 0
      ∧ s.diagSecErr.toInt = 0 ∧ s.diagWErr.toInt = 0 ∧ s.diagP.toInt = 0 ∧ s.diagI.toInt = 0 ∧ s.diagAdj.toInt = 0
      ∧ s.diagFlags.toNat = 0 ∧ flagsValue s = 0

/-- The reset state under any admitted configuration, with any words waiting, is legal and meets `WindowPhase`; so
does `State.reset`, which takes the spec's example configuration (the model's choice, log entry 2). -/
def Obligations.ResetStatesAreLegal : Prop :=
  (State.reset.Legal ∧ State.reset.WindowPhase)
    ∧ ∀ (c : Cfg) (ws : List Word), cfgAdmitted c = true →
      State.Legal { State.resetWith c with words := ws } ∧ State.WindowPhase { State.resetWith c with words := ws }

/-- R9: a launch refuses a configuration with a negative integer or with DUTY_INIT outside [1, 65535]. -/
def Obligations.LaunchRefusesConfigurationsR9Excludes : Prop :=
  ∀ s : State,
    (s.cfg.fastGain < 0 ∨ s.cfg.fastErrorBand < 0 ∨ s.cfg.fastMaxError < 0 ∨ s.cfg.slowGainP < 0
      ∨ s.cfg.slowErrorBandP < 0 ∨ s.cfg.slowGainI < 0 ∨ s.cfg.slowErrorBandI < 0
      ∨ s.cfg.dutyInit < 1 ∨ 65535 < s.cfg.dutyInit) →
    launch s = .refused .cfgNotAdmitted

/-- Under an admitted configuration a launch takes exactly the states whose registers are in the legal ranges, and
refuses every other state; a mode code 12 to 15 is refused. -/
def Obligations.LaunchTakesExactlyLegalRegisters : Prop :=
  (∀ s : State, cfgAdmitted s.cfg = true →
    (launch s = .next s ↔
        1 ≤ s.countAdd.toNat ∧ s.countAdd.toNat ≤ 65536 ∧ s.duty ≠ 0 ∧ -5 ≤ s.winCnt.toInt ∧ s.winCnt.toInt ≤ 60
          ∧ s.lockCnt.toNat ≤ 5 ∧ s.errCause.toNat ≤ 3)
      ∧ (launch s ≠ .next s → ∃ r, launch s = .refused r))
    ∧ ∀ (code : BitVec 4) (s : State), 12 ≤ code.toNat → launchMode code s = .refused .modeIllegal

/-! ### Encoding -/

/-- A word decodes to a transaction exactly when it is that transaction's word. -/
def Obligations.DecodeInvertsEncode : Prop :=
  (∀ i : Instr, i.wellFormed = true ∧ decode (encode i) = .instr i)
    ∧ ∀ (w : Word) (i : Instr), decode w = .instr i → w = encode i

/-- The words R72 to R76 give: the constant of each opcode with the operands in their fields. -/
def Obligations.WordsFollowTheLayout : Prop :=
  encode .ovf = 0x10000000#32 ∧ encode .wrap = 0x20000000#32
    ∧ (∀ c : BitVec 16, encode (.edge c) = 0x30000000#32 ||| c.setWidth 32)
    ∧ (∀ cold lost : Bool, encode (.pass cold lost) =
        0x40000000#32 ||| (BitVec.ofBool lost).setWidth 32 <<< 1 ||| (BitVec.ofBool cold).setWidth 32)
    ∧ ∀ reg : BitVec 5, encode (.rdreg reg) = 0x50000000#32 ||| reg.setWidth 32

/-- R77: C = uint(w[15:0]), COLD = w[0], LOST = w[1], REG = uint(w[4:0]). -/
def Obligations.OperandsAreTheWordsFields : Prop :=
  ∀ w : Word,
    (∀ c, decode w = .instr (.edge c) → c.toNat = w.toNat % 2 ^ 16)
      ∧ (∀ cold lost, decode w = .instr (.pass cold lost) → cold = w.getLsbD 0 ∧ lost = w.getLsbD 1)
      ∧ ∀ reg, decode w = .instr (.rdreg reg) → reg.toNat = w.toNat % 2 ^ 5

/-- Which words decoding rejects, and with which cause: R78's map and R79's reserved bits. -/
def Obligations.DecodeRejectsExactlyR79 : Prop :=
  ∀ w : Word,
    (decode w = .rejected .illegalOp ↔ IllegalOpWord w)
      ∧ (decode w = .rejected .reservedNonzero ↔ ReservedSetWord w)
      ∧ decode w ≠ .rejected .badRegister

/-- A few words written out from the layout of R71 decode to what they stand for (a sanity check). -/
def Obligations.SampleWordsDecode : Prop :=
  decode 0x10000000#32 = .instr .ovf ∧ decode 0x20000000#32 = .instr .wrap
    ∧ decode 0x30009680#32 = .instr (.edge 38528#16) ∧ decode 0x40000001#32 = .instr (.pass true false)
    ∧ decode 0x40000002#32 = .instr (.pass false true) ∧ decode 0x5000000B#32 = .instr (.rdreg 11#5)

/-- R52: a transaction word and the value RDREG returns, serialized into bytes, are little-endian: byte k holds bits
[8k+7:8k]. Each is read back whole from the front of any bytes. -/
def Obligations.SerializedWordsAreLittleEndian : Prop :=
  (∀ (w : Word) (rest : List Byte),
    decodeBytes (bytesOfWord w ++ rest) = some (decode w, rest) ∧ (bytesOfWord w).length = 4
      ∧ ∀ k < 4, (bytesOfWord w)[k]? = some (BitVec.ofNat 8 (w.toNat / 2 ^ (8 * k))))
    ∧ ∀ (v : ReadData) (rest : List Byte),
      readDataOfBytes (bytesOfReadData v ++ rest) = some (v, rest) ∧ (bytesOfReadData v).length = 8
        ∧ ∀ k < 8, (bytesOfReadData v)[k]? = some (BitVec.ofNat 8 (v.toNat / 2 ^ (8 * k)))

/-- R83: each pseudo-instruction expands to exactly the listed sequence. Beside it, R82's operand forms: which transaction
each line stands for, a register name standing for its number of R22, and an operand out of range rejected. -/
def Obligations.PseudoInstructionsExpand : Prop :=
  ((∀ n : Nat, assemble (.tickWraps n) = some (List.replicate n [Instr.ovf, Instr.wrap]).flatten)
    ∧ assemble .idle = some [.pass false false]
    ∧ (∀ n c : Nat, c ≤ 65535 → assemble (.second n c) =
        some ((List.replicate n [Instr.ovf, Instr.wrap]).flatten ++ [.edge (BitVec.ofNat 16 c), .pass false false]))
    ∧ ∀ n c : Nat, 65535 < c → assemble (.second n c) = none)
    ∧ (assemble .ovf = some [.ovf] ∧ assemble .wrap = some [.wrap])
    ∧ ((∀ c : Nat, c ≤ 65535 → assemble (.edge c) = some [.edge (BitVec.ofNat 16 c)])
      ∧ ∀ c : Nat, 65535 < c → assemble (.edge c) = none)
    ∧ (assemble .passAlone = some [.pass false false]
      ∧ (∀ cold lost : Bool, assemble (.pass cold.toNat lost.toNat) = some [.pass cold lost])
      ∧ ∀ cold lost : Nat, 1 < cold ∨ 1 < lost → assemble (.pass cold lost) = none)
    ∧ (∀ n : Nat, n ≤ 31 → assemble (.rdregNumber n) = some [.rdreg (BitVec.ofNat 5 n)])
    ∧ (∀ n : Nat, 31 < n → assemble (.rdregNumber n) = none)
    ∧ ∀ line ∈ [(RegName.count, 0), (.countAdd, 1), (.sample, 2), (.flags, 3), (.ppsMiss, 4), (.mode, 5), (.winSum, 6),
        (.winCnt, 7), (.iHist, 8), (.lockCnt, 9), (.minNoAdj, 10), (.duty, 11), (.errCause, 12), (.diagSecErr, 13),
        (.diagWErr, 14), (.diagP, 15), (.diagI, 16), (.diagAdj, 17), (.diagFlags, 18)],
      assemble (.rdregName line.1) = some [.rdreg (BitVec.ofNat 5 line.2)]

/-! ### The step and rejected words -/

/-- When the next word decodes to a transaction, a step is exec of it on the state without that word; where no word is
left, the block holds its state. The list of words and the held state are the model's choice, log entry 4. -/
def Obligations.StepRunsTheDecodedTransaction : Prop :=
  (∀ (s : State) (w : Word) (rest : List Word) (i : Instr),
    s.words = w :: rest → decode w = .instr i → step s = exec i { s with words := rest })
    ∧ ∀ s : State, s.words = [] → step s = .next s

/-- R79: an illegal OP records cause 1 and a set reserved bit cause 2, and a rejected word changes nothing else. -/
def Obligations.RejectedWordsAreOnlyRecorded : Prop :=
  ∀ (s : State) (w : Word) (rest : List Word), s.words = w :: rest →
    (IllegalOpWord w → step s = .next (State.errorRecorded { s with words := rest } 1))
      ∧ (ReservedSetWord w → step s = .next (State.errorRecorded { s with words := rest } 2))

/-- R243: one cause per word, ILLEGAL_OP before RESERVED_NONZERO before BAD_REGISTER; any other word records none. -/
def Obligations.CausePriorityWithinOneWord : Prop :=
  ∀ (s t : State) (w : Word) (rest : List Word), s.words = w :: rest → s.cmdErr = false → step s = .next t →
    (IllegalOpWord w → t.cmdErr = true ∧ t.errCause = 1)
      ∧ (¬ IllegalOpWord w → ReservedSetWord w → t.cmdErr = true ∧ t.errCause = 2)
      ∧ (¬ IllegalOpWord w → ¬ ReservedSetWord w → BadRegisterWord w → t.cmdErr = true ∧ t.errCause = 3)
      ∧ (¬ IllegalOpWord w → ¬ ReservedSetWord w → ¬ BadRegisterWord w → t.cmdErr = false ∧ t.errCause = s.errCause)

/-- The record is sticky: no transaction clears CMDERR, and ERRCAUSE keeps the first cause. -/
def Obligations.CommandErrorRecordIsSticky : Prop :=
  ∀ (k : Nat) (s t : State), Sys2Proof.core.run k s = .next t → s.cmdErr = true →
    t.cmdErr = true ∧ t.errCause = s.errCause

/-! ### Tick Accumulator -/

/-- R101: OVF sets OVFPEND, set or not, and changes nothing else. -/
def Obligations.OvfLatchesTheOverflow : Prop :=
  ∀ s : State, exec .ovf s = .next { s with ovfPend := true }

/-- R102: WRAP adds COUNTADD to COUNT modulo 2^64, refills COUNTADD and clears OVFPEND where an overflow is pending,
and changes nothing where none is. -/
def Obligations.WrapServicesAPendingOverflow : Prop :=
  ∀ s : State,
    (s.ovfPend = true → exec .wrap s = .next { s with
      count := s.count + s.countAdd.setWidth 64
      countAdd := 65536#17
      ovfPend := false })
      ∧ (s.ovfPend = false → exec .wrap s = .next s)

/-- A serviced wrap adds exactly COUNTADD as a signed count, or that less 2^64 where COUNT passes 2^63 - 1. -/
def Obligations.WrapAddsTheCreditExactly : Prop :=
  ∀ s : State, s.ovfPend = true → s.countAdd.toNat ≤ 65536 →
    ∃ t, exec .wrap s = .next t
      ∧ (s.count.toInt + s.countAdd.toNat < 2 ^ 63 → t.count.toInt = s.count.toInt + s.countAdd.toNat)
      ∧ (2 ^ 63 ≤ s.count.toInt + s.countAdd.toNat → t.count.toInt = s.count.toInt + s.countAdd.toNat - 2 ^ 64)

/-- R103: EDGE C. -/
def Obligations.EdgeLatchesTheSample : Prop :=
  ∀ (s : State) (c : BitVec 16),
    exec (.edge c) s = .next { s with
      ovfPend := false
      sample := s.count + c.setWidth 64
      countAdd := BitVec.ofNat 17 (65536 - c.toNat)
      count := 0
      ppsMiss := BitVec.ofNat 32 (min (s.ppsMiss.toNat + 1) 4294967295) }

/-- The event transactions and RDREG write no register private to the main loop, nor its report registers (the spec's
inference in R43, "no event transaction reads or writes any private register"). -/
def Obligations.OnlyPassWritesPrivateRegisters : Prop :=
  ∀ (i : Instr) (s t : State), (∀ cold lost, i ≠ .pass cold lost) → exec i s = .next t →
    t.mode = s.mode ∧ t.winSum = s.winSum ∧ t.winCnt = s.winCnt ∧ t.iHist = s.iHist ∧ t.lockCnt = s.lockCnt
      ∧ t.minNoAdj = s.minNoAdj ∧ t.duty = s.duty ∧ t.diagSecErr = s.diagSecErr ∧ t.diagWErr = s.diagWErr
      ∧ t.diagP = s.diagP ∧ t.diagI = s.diagI ∧ t.diagAdj = s.diagAdj ∧ t.diagFlags = s.diagFlags

/-- The spec's inference in R104, "the second EDGE writes SAMPLE = T": between two EDGEs, with `k` overflows, at least
one, each serviced before the next and before the second EDGE, and any passes and reads among them, the sample is the
number of ticks k * 65536 + C2 - C1. -/
def Obligations.SamplesAreExact : Prop :=
  ∀ (s : State) (c1 c2 : BitVec 16) (k : Nat) (between : List Instr),
    1 ≤ k → (k * 65536 + c2.toNat - c1.toNat : Int) < 2 ^ 63 → between.filter isTickEvent = tickWrapPairs k →
    ∃ t, execAll (.edge c1 :: between ++ [.edge c2]) s = .next t
      ∧ t.sample.toInt = k * 65536 + c2.toNat - c1.toNat

/-- The spec's inference in R105, "Only one WRAP then adds to COUNT": two overflows with no service between them add
COUNTADD once, and the sample is short by exactly 65536 of the one that services both. -/
def Obligations.CoalescedOverflowLosesOneWrap : Prop :=
  ∀ (s : State) (c : BitVec 16), s.ovfPend = false → s.countAdd.toNat ≤ 65536 → s.count.toInt < 2 ^ 62 →
    ∃ t u, execAll [.ovf, .ovf, .wrap, .wrap, .edge c] s = .next t
      ∧ execAll [.ovf, .wrap, .ovf, .wrap, .edge c] s = .next u
      ∧ t.sample.toInt = s.count.toInt + s.countAdd.toNat + c.toNat
      ∧ u.sample.toInt = t.sample.toInt + 65536

/-- The spec's inference in R106, "the pending wrap's COUNTADD is never added to COUNT": an overflow pending at an
EDGE is never added. Before the latch instant, the sample is short by the pending COUNTADD of the serviced order;
after it, that sample is the same and the next one, `k` serviced overflows later, is short by 65536. -/
def Obligations.OverflowPendingAtAnEdgeIsLost : Prop :=
  ∀ (s : State) (c c2 : BitVec 16) (k : Nat), s.ovfPend = false → s.countAdd.toNat ≤ 65536 → s.count.toInt < 2 ^ 62 →
    1 ≤ k → k < 2 ^ 40 →
    (∃ t u, execAll [.ovf, .edge c, .wrap] s = .next t ∧ execAll [.ovf, .wrap, .edge c] s = .next u
        ∧ u.sample.toInt = t.sample.toInt + s.countAdd.toNat)
      ∧ (∃ t u, execAll [.ovf, .edge c] s = .next t ∧ execAll [.edge c, .ovf] s = .next u ∧ t.sample = u.sample)
      ∧ ∃ t u, execAll ([.ovf, .edge c, .wrap] ++ tickWrapPairs k ++ [.edge c2]) s = .next t
        ∧ execAll ([.edge c, .ovf, .wrap] ++ tickWrapPairs k ++ [.edge c2]) s = .next u
        ∧ u.sample.toInt = t.sample.toInt + 65536

/-- The spec's inference in R107, "the second EDGE writes SAMPLE = C2, not C2 − C1": with no OVF followed by a WRAP between
two EDGEs, the second writes SAMPLE = C2, whatever else runs between. An overflow latched there and not serviced before
the second EDGE makes no difference. -/
def Obligations.NoOverflowBetweenEdges : Prop :=
  ∀ (s : State) (c1 c2 : BitVec 16) (beforeOvf fromOvf : List Instr),
    (∀ i ∈ beforeOvf, i ≠ .ovf ∧ ∀ c, i ≠ .edge c) → (∀ i ∈ fromOvf, i ≠ .wrap ∧ ∀ c, i ≠ .edge c) →
    ∃ t, execAll (.edge c1 :: beforeOvf ++ fromOvf ++ [.edge c2]) s = .next t ∧ t.sample.toInt = c2.toNat

/-! ### PASS: snapshot and reports -/

/-- R121: in every mode a PASS clears a non-zero SAMPLE and PPSMISS with it, leaves both where SAMPLE is 0, and never
writes COUNT, COUNTADD or OVFPEND. -/
def Obligations.PassSnapshotConsumesTheSample : Prop :=
  ∀ (s : State) (cold lost : Bool), ∃ t, exec (.pass cold lost) s = .next t
    ∧ (s.sample ≠ 0 → t.sample = 0 ∧ t.ppsMiss = 0) ∧ (s.sample = 0 → t.sample = s.sample ∧ t.ppsMiss = s.ppsMiss)
    ∧ t.count = s.count ∧ t.countAdd = s.countAdd ∧ t.ovfPend = s.ovfPend

/-- No transaction and no rejected word changes the configuration (R61), none takes a word but the one it is, and all
but RDREG leave the command-error record as it was. -/
def Obligations.TransactionsKeepConfigurationAndRecord : Prop :=
  (∀ s t : State, step s = .next t → t.cfg = s.cfg)
    ∧ (∀ (i : Instr) (s t : State), exec i s = .next t → t.cfg = s.cfg ∧ t.words = s.words)
    ∧ ∀ (i : Instr) (s t : State), (∀ reg, i ≠ .rdreg reg) → exec i s = .next t →
      t.cmdErr = s.cmdErr ∧ t.errCause = s.errCause

/-- In every mode a PASS with a ready sample writes DIAG_SECERR = 10,000,000 - s modulo 2^64, sets EDGE_RPT and drives
EDGE_REPORT (R204); one without leaves DIAG_SECERR as it was and EDGE_RPT 0. That EDGE_REPORT stands before the pass's
other strobes is the model's reading of R120's pseudocode (log entry 10). -/
def Obligations.EveryReadySampleIsReported : Prop :=
  ∀ (s t : State) (cold lost : Bool), exec (.pass cold lost) s = .next t →
    (s.sample ≠ 0 → t.diagSecErr = BitVec.ofInt 64 (10000000 - s.sample.toInt) ∧ t.diagFlags.getLsbD 0 = true
        ∧ ∃ more, t.trace = s.trace ++ .strobe .edgeReport :: more)
      ∧ (s.sample = 0 → t.diagSecErr = s.diagSecErr ∧ t.diagFlags.getLsbD 0 = false)

/-- After a PASS, DIAG_FLAGS tells which strobes that pass drove; the other transactions and a rejected word never write it
(R206). That the strobes of one pass stand in the order EDGE_REPORT, ACTUATOR_WRITE, WINDOW_REPORT is the model's reading
of the pseudocode of R120, R163 and R174 (log entry 10). -/
def Obligations.DiagFlagsTellTheReports : Prop :=
  (∀ (s t : State) (cold lost : Bool), exec (.pass cold lost) s = .next t →
    t.trace = s.trace ++ ((if t.diagFlags.getLsbD 0 = true then [.strobe .edgeReport] else [])
      ++ (if t.diagFlags.getLsbD 2 = true then [.strobe .actuatorWrite] else [])
      ++ (if t.diagFlags.getLsbD 1 = true then [.strobe .windowReport] else [])))
    ∧ (∀ (i : Instr) (s t : State), (∀ cold lost, i ≠ .pass cold lost) → exec i s = .next t → t.diagFlags = s.diagFlags)
    ∧ ∀ (s t : State) (w : Word) (rest : List Word) (cause : CmdCause),
      s.words = w :: rest → decode w = .rejected cause → step s = .next t → t.diagFlags = s.diagFlags

/-- R122: a sample the pass's handler does not use (in a mode that is not PPS-gated, in a pass that enters a fault mode,
or where the handler discards it to settle) is kept by no register but DIAG_SECERR: two passes that differ only in that
sample end the same but for it. -/
def Obligations.UnusedSampleIsDiscarded : Prop :=
  ∀ (s t1 t2 : State) (cold lost : Bool) (v1 v2 : BitVec 64), v1 ≠ 0 → v2 ≠ 0 →
    (isPpsGated s.mode = false ∨ s.ColdFault cold ∨ s.LostFault lost ∨ s.PpsFault
      ∨ s.mode ∈ [Mode.fastInit, .fastWait, .slowInit] ∨ s.winCnt.toInt < 0) →
    exec (.pass cold lost) (s.deliver v1) = .next t1 → exec (.pass cold lost) (s.deliver v2) = .next t2 →
    t2 = { t1 with diagSecErr := t2.diagSecErr }

/-- R123: a signal whose configuration flag is false is read as deasserted, whatever its bit. -/
def Obligations.CompiledOutSignalsAreIgnored : Prop :=
  ∀ (s : State) (cold lost : Bool),
    (s.cfg.haveOscColdSignal = false → exec (.pass cold lost) s = exec (.pass false lost) s)
      ∧ (s.cfg.haveGpsLockSignal = false → exec (.pass cold lost) s = exec (.pass cold false) s)

/-! ### Fault Monitor -/

/-- R141: from a mode that is no fault mode, the detected fault of highest priority becomes the mode and the pass
ends, writing only MODE after its snapshot. -/
def Obligations.FaultEntryByPriority : Prop :=
  ∀ (s : State) (cold lost : Bool), s.mode ∉ [Mode.oscCold, .noOscClock, .noGpsPps, .noGpsLock] →
    (s.ColdFault cold → exec (.pass cold lost) s = .next { s.snapped with mode := .oscCold })
      ∧ (¬ s.ColdFault cold → s.LostFault lost →
        exec (.pass cold lost) s = .next { s.snapped with mode := .noGpsLock })
      ∧ (¬ s.ColdFault cold → ¬ s.LostFault lost → s.PpsFault →
        exec (.pass cold lost) s = .next { s.snapped with mode := .noGpsPps })
      ∧ (¬ s.ColdFault cold → ¬ s.LostFault lost → ¬ s.PpsFault → s.ClockFault →
        exec (.pass cold lost) s = .next { s.snapped with mode := .noOscClock })

/-- R145 to R148: a fault mode goes to CHECKERRORS when its own fault is no longer detected, and holds otherwise,
whatever the other faults; it writes only MODE after the snapshot. -/
def Obligations.FaultModesRecoverOnTheirOwnPredicate : Prop :=
  ∀ (s : State) (cold lost : Bool),
    (s.mode = .oscCold →
      (s.ColdFault cold → exec (.pass cold lost) s = .next s.snapped)
        ∧ (¬ s.ColdFault cold → exec (.pass cold lost) s = .next { s.snapped with mode := .checkErrors }))
      ∧ (s.mode = .noGpsLock →
        (s.LostFault lost → exec (.pass cold lost) s = .next s.snapped)
          ∧ (¬ s.LostFault lost → exec (.pass cold lost) s = .next { s.snapped with mode := .checkErrors }))
      ∧ (s.mode = .noGpsPps →
        (s.PpsFault → exec (.pass cold lost) s = .next s.snapped)
          ∧ (¬ s.PpsFault → exec (.pass cold lost) s = .next { s.snapped with mode := .checkErrors }))
      ∧ (s.mode = .noOscClock →
        (s.ClockFault → exec (.pass cold lost) s = .next s.snapped)
          ∧ (¬ s.ClockFault → exec (.pass cold lost) s = .next { s.snapped with mode := .checkErrors }))

/-- R142 to R144: with no fault, START and CHECKERRORS go to GOOD and GOOD goes to FASTINIT, sample or none. -/
def Obligations.UngatedModesAdvance : Prop :=
  ∀ (s : State) (cold lost : Bool), s.NoFault cold lost →
    (s.mode = .start ∨ s.mode = .checkErrors → exec (.pass cold lost) s = .next { s.snapped with mode := .good })
      ∧ (s.mode = .good → exec (.pass cold lost) s = .next { s.snapped with mode := .fastInit })

/-- The spec's inference in R149, "Idempotence of the fault check". For any inputs, FaultEntry applied again to the mode it
produced enters no fault, whether the first application entered one or found none. Where a PASS that ends in a fault mode
is repeated with the same signals and no event between, MODE stays; where a PASS finds no fault, one repeated so finds none
either, and neither ends in a fault mode. -/
def Obligations.FaultCheckIsIdempotent : Prop :=
  (∀ (p : PassInputs) (m : Mode), faultEntry p ((faultEntry p m).getD m) = none)
    ∧ ∀ (s t u : State) (cold lost : Bool), exec (.pass cold lost) s = .next t → exec (.pass cold lost) t = .next u →
      (isFaultMode t.mode = true → u.mode = t.mode)
        ∧ (s.NoFault cold lost → t.NoFault cold lost ∧ isFaultMode t.mode = false ∧ isFaultMode u.mode = false)

/-- NOOSCCLOCK is entered only by a pass that finds SAMPLE = 0 and PPSMISS > 14; a pass that copies a sample never
enters it (the spec's inference in R268, "A long stall of the main loop does *not* raise NOOSCCLOCK falsely"). -/
def Obligations.NoOscClockNeedsZeroSamples : Prop :=
  ∀ (s t : State) (cold lost : Bool), exec (.pass cold lost) s = .next t → s.mode ≠ .noOscClock →
    t.mode = .noOscClock → s.sample = 0 ∧ 14 < s.ppsMiss.toNat

/-- MODE changes only by PASS (R30), and a PASS takes it only to a successor of the mode it was in: a fault mode by
fault entry (R141), or where that mode's handler leads (R142 to R148, R160 to R163, R173, R174). -/
def Obligations.ModeMovesOnlyToSuccessors : Prop :=
  ∀ (i : Instr) (s t : State), exec i s = .next t →
    t.mode = s.mode ∨ ((∃ cold lost, i = .pass cold lost) ∧ t.mode ∈ successors s.mode)

/-! ### Control loop -/

/-- R160: in a PPS-gated mode a PASS with no ready sample and no fault writes nothing but DIAG_FLAGS, which every PASS
clears. -/
def Obligations.GatedModesWaitForASample : Prop :=
  ∀ (s : State) (cold lost : Bool), s.mode ∈ [Mode.fastInit, .fastWait, .fast, .slowInit, .slow] →
    s.NoFault cold lost → s.sample = 0 → exec (.pass cold lost) s = .next { s with diagFlags := 0 }

/-- R161: FASTINIT on a ready sample. -/
def Obligations.FastInitStartsTheSettle : Prop :=
  ∀ (s : State) (cold lost : Bool), s.mode = .fastInit → s.NoFault cold lost → s.sample ≠ 0 →
    exec (.pass cold lost) s =
      .next { s.snapped with winCnt := BitVec.ofInt 32 (-5), lockCnt := 0, mode := .fastWait }

/-- R162: FASTWAIT on a ready sample counts the settle up, and opens the window when it expires. -/
def Obligations.FastWaitCountsTheSettle : Prop :=
  ∀ (s : State) (cold lost : Bool), s.mode = .fastWait → s.NoFault cold lost → s.sample ≠ 0 →
    (s.winCnt.toInt + 1 < 0 → exec (.pass cold lost) s = .next { s.snapped with winCnt := s.winCnt + 1 })
      ∧ (0 ≤ s.winCnt.toInt + 1 →
        exec (.pass cold lost) s = .next { s.snapped with winSum := 0, winCnt := 0, mode := .fast })

/-- R173: SLOWINIT on a ready sample; LOCKCNT is left as it was. -/
def Obligations.SlowInitClearsTheTracking : Prop :=
  ∀ (s : State) (cold lost : Bool), s.mode = .slowInit → s.NoFault cold lost → s.sample ≠ 0 →
    exec (.pass cold lost) s =
      .next { s.snapped with winSum := 0, winCnt := 0, iHist := 0, minNoAdj := 0, mode := .slow }

/-- R164 and R175: in FAST and in SLOW, while WINCNT is negative a ready sample is discarded and WINCNT rises by one. -/
def Obligations.SettleSamplesAreDiscarded : Prop :=
  ∀ (s : State) (cold lost : Bool), s.mode = .fast ∨ s.mode = .slow → s.NoFault cold lost → s.sample ≠ 0 →
    s.winCnt.toInt < 0 → exec (.pass cold lost) s = .next { s.snapped with winCnt := s.winCnt + 1 }

/-- R165 and R176: an open window takes the sample into WINSUM modulo 2^64 and counts it, until it holds 8 samples in
FAST or 60 in SLOW. -/
def Obligations.OpenWindowsAccumulate : Prop :=
  ∀ (s : State) (cold lost : Bool), s.NoFault cold lost → s.sample ≠ 0 → 0 ≤ s.winCnt.toInt →
    (s.mode = .fast ∧ s.winCnt.toInt + 1 < 8) ∨ (s.mode = .slow ∧ s.winCnt.toInt + 1 < 60) →
    exec (.pass cold lost) s =
      .next { s.snapped with winSum := s.winSum + s.sample, winCnt := s.winCnt + 1 }

/-- The lock (R167): a FAST window that closes in band and brings LOCKCNT to 5 (or above it, in a state no run
reaches) takes MODE to SLOWINIT, computes no adjustment, and is reported with zero terms. That F4 compares LOCKCNT
after counting it, and that EDGE_REPORT stands before WINDOW_REPORT among the outputs, is the model's reading of the
pseudocode of R120 and R163 (log entry 10). -/
def Obligations.FifthWindowInBandLocks : Prop :=
  ∀ (s : State) (cold lost : Bool), s.mode = .fast → s.NoFault cold lost → s.sample ≠ 0 → 7 ≤ s.winCnt.toInt →
    |s.fastError| ≤ s.cfg.fastErrorBand → 5 ≤ s.lockCnt.toNat + 1 → s.lockCnt.toNat + 1 < 256 →
    exec (.pass cold lost) s =
      .next (State.reported { s.snapped with winSum := 0, winCnt := 0, lockCnt := s.lockCnt + 1, mode := .slowInit }
        s.fastError 0 0 0)

/-- A FAST window that closes without completing the lock (R166 to R171). LOCKCNT counts it in band and is cleared out
of band; the clamped error times the truncated quotient of the gain, clamped to plus or minus 32000, adjusts DUTY
where it is not 0, and the next sample is then to be skipped. That F4 compares LOCKCNT after counting it, and the
order EDGE_REPORT, ACTUATOR_WRITE, WINDOW_REPORT of the outputs, is the model's reading of the pseudocode of R120 and
R163 (log entry 10). -/
def Obligations.FastWindowCloseAdjusts : Prop :=
  ∀ (s : State) (cold lost : Bool), cfgAdmitted s.cfg = true → s.mode = .fast → s.NoFault cold lost → s.sample ≠ 0 →
    7 ≤ s.winCnt.toInt →
    ∀ (lock : Nat) (p adj : Int), lock = (if |s.fastError| ≤ s.cfg.fastErrorBand then s.lockCnt.toNat + 1 else 0) →
      lock < 5 →
      p = s.cfg.fastGain / 8 * max (-s.cfg.fastMaxError) (min s.cfg.fastMaxError s.fastError) →
      adj = max (-32000) (min 32000 p) →
      (adj ≠ 0 → exec (.pass cold lost) s =
          .next (State.reported (State.adjusted
            { s.snapped with winSum := 0, winCnt := 0, lockCnt := BitVec.ofNat 8 lock } adj) s.fastError p 0 adj))
        ∧ (adj = 0 → exec (.pass cold lost) s =
          .next (State.reported { s.snapped with winSum := 0, winCnt := 0, lockCnt := BitVec.ofNat 8 lock }
            s.fastError p 0 0))

/-- The spec's inference in R172 (b), "positive error, requiring a positive adjustment": with P_FACTOR_FAST at least 8
(and an error bound of at least 1), a closed window whose sum is below 80,000,000 outside the band gives a positive
adjustment, and one above it a negative one. -/
def Obligations.FastErrorAndAdjustmentAgreeInSign : Prop :=
  ∀ (s t : State) (cold lost : Bool), cfgAdmitted s.cfg = true → 8 ≤ s.cfg.fastGain → 1 ≤ s.cfg.fastMaxError →
    s.mode = .fast → s.NoFault cold lost → s.sample ≠ 0 → 7 ≤ s.winCnt.toInt →
    s.cfg.fastErrorBand < |s.fastError| → exec (.pass cold lost) s = .next t →
    (s.nextWinSum.toInt < 80000000 → 0 < t.diagAdj.toInt) ∧ (80000000 < s.nextWinSum.toInt → t.diagAdj.toInt < 0)

/-- The spec's inference in R170, "this clamp never takes effect": with P_MAX_ERROR 393 and P_FACTOR_FAST div 8 at
most 81, a FAST window close reports a P of at most 31833 in magnitude and an adjustment equal to it: the plus or
minus 32000 clamp never takes effect. -/
def Obligations.SmallFastGainNeverMeetsTheClamp : Prop :=
  ∀ (s t : State) (cold lost : Bool), cfgAdmitted s.cfg = true → s.cfg.fastGain / 8 ≤ 81 →
    s.cfg.fastMaxError = 393 → s.mode = .fast → s.NoFault cold lost → s.sample ≠ 0 → 7 ≤ s.winCnt.toInt →
    exec (.pass cold lost) s = .next t → |t.diagP.toInt| ≤ 31833 ∧ t.diagAdj = t.diagP

/-- A SLOW window whose error exceeds 128 in magnitude takes MODE back to FASTINIT, with the window cleared, IHIST and
DUTY unchanged and zero terms reported (R177, R178, R205). That EDGE_REPORT stands before WINDOW_REPORT among the
outputs is the model's reading of the pseudocode of R120 and R174 (log entry 10). -/
def Obligations.GrossSlowErrorDemotes : Prop :=
  ∀ (s : State) (cold lost : Bool), s.mode = .slow → s.NoFault cold lost → s.sample ≠ 0 → 59 ≤ s.winCnt.toInt →
    128 < |s.slowError| →
    exec (.pass cold lost) s =
      .next (State.reported { s.snapped with winSum := 0, winCnt := 0, mode := .fastInit } s.slowError 0 0 0)

/-- Any other SLOW window close (R177, R179 to R183). `h` is the next IHIST, `pTerm` and `iTerm` the two terms, and
`adj` their clamped sum; DUTY is adjusted and MINNOADJ cleared where it is not 0, and MINNOADJ counts up, saturating,
where it is. The order EDGE_REPORT, ACTUATOR_WRITE, WINDOW_REPORT of the outputs is the model's reading of the
pseudocode of R120 and R174 (log entry 10). -/
def Obligations.SlowWindowCloseTracks : Prop :=
  ∀ (s : State) (cold lost : Bool), s.mode = .slow → s.NoFault cold lost → s.sample ≠ 0 → 59 ≤ s.winCnt.toInt →
    |s.slowError| ≤ 128 →
    ∀ (h pTerm iTerm adj : Int),
      h = (if 0 ≤ s.slowError ∧ 0 ≤ s.iHist.toInt then min (s.iHist.toInt + 1) 2147483647
        else if s.slowError ≤ 0 ∧ s.iHist.toInt ≤ 0 then max (s.iHist.toInt - 1) (-2147483648) else 0) →
      pTerm = (if s.cfg.slowErrorBandP < |s.slowError| then s.slowError * s.cfg.slowGainP else 0) →
      iTerm = (if s.cfg.slowErrorBandI < |h| then s.cfg.slowGainI * h else 0) →
      adj = max (-32000) (min 32000 (pTerm + iTerm)) →
      (adj ≠ 0 → exec (.pass cold lost) s =
          .next (State.reported (State.adjusted
            { s.snapped with winSum := 0, winCnt := 0, iHist := BitVec.ofInt 32 h, minNoAdj := 0 } adj)
            s.slowError pTerm iTerm adj))
        ∧ (adj = 0 → exec (.pass cold lost) s =
          .next (State.reported
            { s.snapped with
              winSum := 0
              winCnt := 0
              iHist := BitVec.ofInt 32 h
              minNoAdj := BitVec.ofNat 32 (min (s.minNoAdj.toNat + 1) 4294967295) }
            s.slowError pTerm iTerm 0))

/-- The spec's inference in R184 (a), "starting from IHIST = 0, IHIST = k". In SLOW with IHIST = 0 and no fault, a run of
ready samples, a PASS each, whose closed windows all have an error above 0 and none a gross one leaves IHIST at the number
of those windows, and one whose closed windows all have an error below 0 at its negative; a window of the other strict sign
that then closes resets IHIST to 0. -/
def Obligations.IHistCountsTheRun : Prop :=
  ∀ (s : State) (vs : List (BitVec 64)), s.mode = .slow → s.iHist = 0 → s.count.toInt ≤ 15000000 → (∀ v ∈ vs, v ≠ 0) →
    (slowErrors vs s).length < 2 ^ 31 →
    ∃ t, passEach vs s = .next t
      ∧ ((∀ e ∈ slowErrors vs s, 0 < e ∧ e ≤ 128) →
        t.mode = .slow ∧ t.iHist.toInt = (slowErrors vs s).length
          ∧ ∀ (v : BitVec 64) (u : State), slowErrors vs s ≠ [] → v ≠ 0 → 59 ≤ t.winCnt.toInt →
            -128 ≤ (t.deliver v).slowError → (t.deliver v).slowError < 0 →
            exec (.pass false false) (t.deliver v) = .next u → u.iHist = 0)
      ∧ ((∀ e ∈ slowErrors vs s, -128 ≤ e ∧ e < 0) →
        t.mode = .slow ∧ t.iHist.toInt = -(slowErrors vs s).length
          ∧ ∀ (v : BitVec 64) (u : State), slowErrors vs s ≠ [] → v ≠ 0 → 59 ≤ t.winCnt.toInt →
            0 < (t.deliver v).slowError → (t.deliver v).slowError ≤ 128 →
            exec (.pass false false) (t.deliver v) = .next u → u.iHist = 0)

/-- From FASTINIT, with no fault, the first six ready samples are discarded and the next ones, up to seven, are the
samples of the first FAST window, which the next ready sample closes (the spec's inference in R172 (c)). -/
def Obligations.AcquisitionDiscardsSixSamples : Prop :=
  ∀ (s : State) (vs : List (BitVec 64)), s.mode = .fastInit → s.count.toInt ≤ 15000000 → (∀ v ∈ vs, v ≠ 0) →
    6 ≤ vs.length → vs.length ≤ 13 →
    ∃ t, passEach vs s = .next t ∧ t.mode = .fast ∧ t.winCnt.toInt = vs.length - 6
      ∧ t.winSum = (vs.drop 6).foldl (fun sum v => sum + v) 0 ∧ t.lockCnt = 0 ∧ t.duty = s.duty
      ∧ ∀ v t', vs.length = 13 → v ≠ 0 → exec (.pass false false) (t.deliver v) = .next t' →
        t'.diagFlags.getLsbD 1 = true

/-! ### Actuator and outputs -/

/-- R200: DUTY is the exact sum clamped to [1, 65535], DUTY_WR is set, ACTUATOR_WRITE is driven, and nothing else
changes. -/
def Obligations.ActuatorClampsAndNeverWraps : Prop :=
  ∀ (s : State) (adj : Int),
    applyAdjust adj s = { s with
        duty := BitVec.ofInt 16 (max 1 (min 65535 ((s.duty.toNat : Int) + adj)))
        diagFlags := s.diagFlags ||| 4
        trace := s.trace ++ [.strobe .actuatorWrite] }
      ∧ ((applyAdjust adj s).duty.toNat : Int) = max 1 (min 65535 ((s.duty.toNat : Int) + adj))

/-- The spec's inference in R202, "that recipe gives the same DUTY as rule R200": the source's recipe gives the same
DUTY for every DUTY in [1, 65535] and every adjustment but 0 in range, except where the sum is exactly 0: the recipe
then stores 0 and R200 stores 1. -/
def Obligations.WrapRecipeDiffersOnlyAtZero : Prop :=
  ∀ (s : State) (adj : Int), 1 ≤ s.duty.toNat → |adj| ≤ 32000 → adj ≠ 0 →
    ((s.duty.toNat : Int) + adj ≠ 0 → wrapRecipe s.duty adj = (applyAdjust adj s).duty)
      ∧ ((s.duty.toNat : Int) + adj = 0 → wrapRecipe s.duty adj = 0 ∧ (applyAdjust adj s).duty = 1)

/-- DUTY changes only in a PASS that closes a FAST or SLOW window with a ready sample, and such a pass sets DUTY_WR
and drives ACTUATOR_WRITE (the spec's inference in R201, "DUTY changes only inside ApplyAdjust"). -/
def Obligations.DutyChangesOnlyAtAWindowClose : Prop :=
  ∀ (i : Instr) (s t : State), exec i s = .next t → t.duty ≠ s.duty →
    (∃ cold lost, i = .pass cold lost) ∧ s.sample ≠ 0
      ∧ ((s.mode = .fast ∧ 7 ≤ s.winCnt.toInt) ∨ (s.mode = .slow ∧ 59 ≤ s.winCnt.toInt))
      ∧ t.diagFlags = 7 ∧ t.diagAdj ≠ 0
      ∧ ∃ driven, t.trace = s.trace ++ driven ∧ Output.strobe .actuatorWrite ∈ driven

/-- R203: with an admitted configuration the status shows ACQUIRING in FASTWAIT and FAST. -/
def Obligations.StatusShowsAcquiring : Prop :=
  ∀ s : State, cfgAdmitted s.cfg = true → s.mode = .fastWait ∨ s.mode = .fast → statusOutput s = .acquiring

/-! ### Register read -/

/-- R220 and R221: RDREG of each assigned number drives the whole register, sign-extended where it is signed and
zero-extended where not, and changes nothing. MODE reads as its code of R31, written out here. -/
def Obligations.RdregReadsEachRegister : Prop :=
  ∀ (s : State) (reg : BitVec 5) (value : Int),
    (reg.toNat = 0 ∧ value = s.count.toInt) ∨ (reg.toNat = 1 ∧ value = s.countAdd.toNat)
      ∨ (reg.toNat = 2 ∧ value = s.sample.toInt)
      ∨ (reg.toNat = 3 ∧ value = 4 * s.cmdErr.toNat + 2 * (decide (s.sample ≠ 0)).toNat + s.ovfPend.toNat)
      ∨ (reg.toNat = 4 ∧ value = s.ppsMiss.toNat)
      ∨ (reg.toNat = 5 ∧ (s.mode, value) ∈ [(Mode.start, 0), (.checkErrors, 1), (.oscCold, 2), (.noOscClock, 3),
          (.noGpsPps, 4), (.noGpsLock, 5), (.good, 6), (.fastInit, 7), (.fastWait, 8), (.fast, 9), (.slowInit, 10),
          (.slow, 11)])
      ∨ (reg.toNat = 6 ∧ value = s.winSum.toInt) ∨ (reg.toNat = 7 ∧ value = s.winCnt.toInt)
      ∨ (reg.toNat = 8 ∧ value = s.iHist.toInt) ∨ (reg.toNat = 9 ∧ value = s.lockCnt.toNat)
      ∨ (reg.toNat = 10 ∧ value = s.minNoAdj.toNat) ∨ (reg.toNat = 11 ∧ value = s.duty.toNat)
      ∨ (reg.toNat = 12 ∧ value = s.errCause.toNat) ∨ (reg.toNat = 13 ∧ value = s.diagSecErr.toInt)
      ∨ (reg.toNat = 14 ∧ value = s.diagWErr.toInt) ∨ (reg.toNat = 15 ∧ value = s.diagP.toInt)
      ∨ (reg.toNat = 16 ∧ value = s.diagI.toInt) ∨ (reg.toNat = 17 ∧ value = s.diagAdj.toInt)
      ∨ (reg.toNat = 18 ∧ value = s.diagFlags.toNat) →
    exec (.rdreg reg) s = .next { s with trace := s.trace ++ [.rdata (BitVec.ofInt 64 value)] }

/-- R222: RDREG of 19 to 31 records cause 3, drives nothing, and changes nothing else. -/
def Obligations.RdregOfAnUnassignedNumber : Prop :=
  ∀ (s : State) (reg : BitVec 5), 19 ≤ reg.toNat → exec (.rdreg reg) s = .next (s.errorRecorded 3)

/-! ### Whole-machine rules -/

/-- From every legal state a step gives a legal state (R29, R33, R35, R37, R39). -/
def Obligations.StepKeepsLegality : Prop :=
  ∀ s t : State, s.Legal → step s = .next t → t.Legal

/-- From every state that meets `WindowPhase` a step gives one: WINCNT and LOCKCNT hold what each mode counts with
(R162, R164, R167, R173, R175). -/
def Obligations.StepKeepsWindowPhase : Prop :=
  ∀ s t : State, s.WindowPhase → step s = .next t → t.WindowPhase

/-- No word and no state stops the block (R255): every step answers a next state. -/
def Obligations.NoTransactionStopsTheBlock : Prop :=
  (∀ s : State, ∃ t, step s = .next t) ∧ ∀ (i : Instr) (s : State), ∃ t, exec i s = .next t

/-- The spec's inference in R262, "never change DUTY or MODE": the reset values of WINSUM, WINCNT, IHIST, LOCKCNT and
MINNOADJ never change DUTY or MODE, whatever words are issued and however many steps are run. -/
def Obligations.FiveResetValuesDoNotMatter : Prop :=
  ∀ (c : Cfg) (ws : List Word) (sum : BitVec 64) (cnt hist noAdj : BitVec 32) (lock : BitVec 8) (k : Nat) (t u : State),
    Sys2Proof.core.run k { State.resetWith c with words := ws } = .next t →
    Sys2Proof.core.run k { State.resetWith c with
      words := ws
      winSum := sum
      winCnt := cnt
      iHist := hist
      minNoAdj := noAdj
      lockCnt := lock } = .next u →
    t.duty = u.duty ∧ t.mode = u.mode
end

