-- ==== Sys2Proof/Laws/State.lean ====
section
/-! SUPPORT. What each field holds after each shared update of the state. -/

namespace Sys2Proof.Machine

/-! ### drive -/

@[simp] theorem drive_cfg (o : Output) (s : State) : (drive o s).cfg = s.cfg := rfl
@[simp] theorem drive_words (o : Output) (s : State) : (drive o s).words = s.words := rfl
@[simp] theorem drive_trace (o : Output) (s : State) : (drive o s).trace = s.trace ++ [o] := rfl
@[simp] theorem drive_count (o : Output) (s : State) : (drive o s).count = s.count := rfl
@[simp] theorem drive_countAdd (o : Output) (s : State) : (drive o s).countAdd = s.countAdd := rfl
@[simp] theorem drive_ovfPend (o : Output) (s : State) : (drive o s).ovfPend = s.ovfPend := rfl
@[simp] theorem drive_sample (o : Output) (s : State) : (drive o s).sample = s.sample := rfl
@[simp] theorem drive_ppsMiss (o : Output) (s : State) : (drive o s).ppsMiss = s.ppsMiss := rfl
@[simp] theorem drive_mode (o : Output) (s : State) : (drive o s).mode = s.mode := rfl
@[simp] theorem drive_winSum (o : Output) (s : State) : (drive o s).winSum = s.winSum := rfl
@[simp] theorem drive_winCnt (o : Output) (s : State) : (drive o s).winCnt = s.winCnt := rfl
@[simp] theorem drive_iHist (o : Output) (s : State) : (drive o s).iHist = s.iHist := rfl
@[simp] theorem drive_lockCnt (o : Output) (s : State) : (drive o s).lockCnt = s.lockCnt := rfl
@[simp] theorem drive_minNoAdj (o : Output) (s : State) : (drive o s).minNoAdj = s.minNoAdj := rfl
@[simp] theorem drive_duty (o : Output) (s : State) : (drive o s).duty = s.duty := rfl
@[simp] theorem drive_cmdErr (o : Output) (s : State) : (drive o s).cmdErr = s.cmdErr := rfl
@[simp] theorem drive_errCause (o : Output) (s : State) : (drive o s).errCause = s.errCause := rfl
@[simp] theorem drive_diagSecErr (o : Output) (s : State) : (drive o s).diagSecErr = s.diagSecErr := rfl
@[simp] theorem drive_diagWErr (o : Output) (s : State) : (drive o s).diagWErr = s.diagWErr := rfl
@[simp] theorem drive_diagP (o : Output) (s : State) : (drive o s).diagP = s.diagP := rfl
@[simp] theorem drive_diagI (o : Output) (s : State) : (drive o s).diagI = s.diagI := rfl
@[simp] theorem drive_diagAdj (o : Output) (s : State) : (drive o s).diagAdj = s.diagAdj := rfl
@[simp] theorem drive_diagFlags (o : Output) (s : State) : (drive o s).diagFlags = s.diagFlags := rfl

/-! ### raiseCmdError -/

@[simp] theorem raiseCmdError_cfg (cause : CmdCause) (s : State) : (raiseCmdError cause s).cfg = s.cfg := rfl
@[simp] theorem raiseCmdError_words (cause : CmdCause) (s : State) : (raiseCmdError cause s).words = s.words := rfl
@[simp] theorem raiseCmdError_trace (cause : CmdCause) (s : State) : (raiseCmdError cause s).trace = s.trace := rfl
@[simp] theorem raiseCmdError_count (cause : CmdCause) (s : State) : (raiseCmdError cause s).count = s.count := rfl
@[simp] theorem raiseCmdError_countAdd (cause : CmdCause) (s : State) :
    (raiseCmdError cause s).countAdd = s.countAdd := rfl
@[simp] theorem raiseCmdError_ovfPend (cause : CmdCause) (s : State) :
    (raiseCmdError cause s).ovfPend = s.ovfPend := rfl
@[simp] theorem raiseCmdError_sample (cause : CmdCause) (s : State) : (raiseCmdError cause s).sample = s.sample := rfl
@[simp] theorem raiseCmdError_ppsMiss (cause : CmdCause) (s : State) :
    (raiseCmdError cause s).ppsMiss = s.ppsMiss := rfl
@[simp] theorem raiseCmdError_mode (cause : CmdCause) (s : State) : (raiseCmdError cause s).mode = s.mode := rfl
@[simp] theorem raiseCmdError_winSum (cause : CmdCause) (s : State) : (raiseCmdError cause s).winSum = s.winSum := rfl
@[simp] theorem raiseCmdError_winCnt (cause : CmdCause) (s : State) : (raiseCmdError cause s).winCnt = s.winCnt := rfl
@[simp] theorem raiseCmdError_iHist (cause : CmdCause) (s : State) : (raiseCmdError cause s).iHist = s.iHist := rfl
@[simp] theorem raiseCmdError_lockCnt (cause : CmdCause) (s : State) :
    (raiseCmdError cause s).lockCnt = s.lockCnt := rfl
@[simp] theorem raiseCmdError_minNoAdj (cause : CmdCause) (s : State) :
    (raiseCmdError cause s).minNoAdj = s.minNoAdj := rfl
@[simp] theorem raiseCmdError_duty (cause : CmdCause) (s : State) : (raiseCmdError cause s).duty = s.duty := rfl
@[simp] theorem raiseCmdError_cmdErr (cause : CmdCause) (s : State) : (raiseCmdError cause s).cmdErr = true := rfl
@[simp] theorem raiseCmdError_errCause (cause : CmdCause) (s : State) :
    (raiseCmdError cause s).errCause = if s.cmdErr then s.errCause else causeCode cause := rfl
@[simp] theorem raiseCmdError_diagSecErr (cause : CmdCause) (s : State) :
    (raiseCmdError cause s).diagSecErr = s.diagSecErr := rfl
@[simp] theorem raiseCmdError_diagWErr (cause : CmdCause) (s : State) :
    (raiseCmdError cause s).diagWErr = s.diagWErr := rfl
@[simp] theorem raiseCmdError_diagP (cause : CmdCause) (s : State) : (raiseCmdError cause s).diagP = s.diagP := rfl
@[simp] theorem raiseCmdError_diagI (cause : CmdCause) (s : State) : (raiseCmdError cause s).diagI = s.diagI := rfl
@[simp] theorem raiseCmdError_diagAdj (cause : CmdCause) (s : State) :
    (raiseCmdError cause s).diagAdj = s.diagAdj := rfl
@[simp] theorem raiseCmdError_diagFlags (cause : CmdCause) (s : State) :
    (raiseCmdError cause s).diagFlags = s.diagFlags := rfl

/-! ### enterFaultMode -/

@[simp] theorem enterFaultMode_cfg (m : Mode) (s : State) : (enterFaultMode m s).cfg = s.cfg := rfl
@[simp] theorem enterFaultMode_words (m : Mode) (s : State) : (enterFaultMode m s).words = s.words := rfl
@[simp] theorem enterFaultMode_trace (m : Mode) (s : State) : (enterFaultMode m s).trace = s.trace := rfl
@[simp] theorem enterFaultMode_count (m : Mode) (s : State) : (enterFaultMode m s).count = s.count := rfl
@[simp] theorem enterFaultMode_countAdd (m : Mode) (s : State) : (enterFaultMode m s).countAdd = s.countAdd := rfl
@[simp] theorem enterFaultMode_ovfPend (m : Mode) (s : State) : (enterFaultMode m s).ovfPend = s.ovfPend := rfl
@[simp] theorem enterFaultMode_sample (m : Mode) (s : State) : (enterFaultMode m s).sample = s.sample := rfl
@[simp] theorem enterFaultMode_ppsMiss (m : Mode) (s : State) : (enterFaultMode m s).ppsMiss = s.ppsMiss := rfl
@[simp] theorem enterFaultMode_mode (m : Mode) (s : State) : (enterFaultMode m s).mode = m := rfl
@[simp] theorem enterFaultMode_winSum (m : Mode) (s : State) : (enterFaultMode m s).winSum = s.winSum := rfl
@[simp] theorem enterFaultMode_winCnt (m : Mode) (s : State) : (enterFaultMode m s).winCnt = s.winCnt := rfl
@[simp] theorem enterFaultMode_iHist (m : Mode) (s : State) : (enterFaultMode m s).iHist = s.iHist := rfl
@[simp] theorem enterFaultMode_lockCnt (m : Mode) (s : State) : (enterFaultMode m s).lockCnt = s.lockCnt := rfl
@[simp] theorem enterFaultMode_minNoAdj (m : Mode) (s : State) : (enterFaultMode m s).minNoAdj = s.minNoAdj := rfl
@[simp] theorem enterFaultMode_duty (m : Mode) (s : State) : (enterFaultMode m s).duty = s.duty := rfl
@[simp] theorem enterFaultMode_cmdErr (m : Mode) (s : State) : (enterFaultMode m s).cmdErr = s.cmdErr := rfl
@[simp] theorem enterFaultMode_errCause (m : Mode) (s : State) : (enterFaultMode m s).errCause = s.errCause := rfl
@[simp] theorem enterFaultMode_diagSecErr (m : Mode) (s : State) :
    (enterFaultMode m s).diagSecErr = s.diagSecErr := rfl
@[simp] theorem enterFaultMode_diagWErr (m : Mode) (s : State) : (enterFaultMode m s).diagWErr = s.diagWErr := rfl
@[simp] theorem enterFaultMode_diagP (m : Mode) (s : State) : (enterFaultMode m s).diagP = s.diagP := rfl
@[simp] theorem enterFaultMode_diagI (m : Mode) (s : State) : (enterFaultMode m s).diagI = s.diagI := rfl
@[simp] theorem enterFaultMode_diagAdj (m : Mode) (s : State) : (enterFaultMode m s).diagAdj = s.diagAdj := rfl
@[simp] theorem enterFaultMode_diagFlags (m : Mode) (s : State) : (enterFaultMode m s).diagFlags = s.diagFlags := rfl

/-! ### recoverUnless -/

@[simp] theorem recoverUnless_cfg (detected : Bool) (s : State) :
    (recoverUnless detected s).cfg = s.cfg := by cases detected <;> rfl
@[simp] theorem recoverUnless_words (detected : Bool) (s : State) :
    (recoverUnless detected s).words = s.words := by cases detected <;> rfl
@[simp] theorem recoverUnless_trace (detected : Bool) (s : State) :
    (recoverUnless detected s).trace = s.trace := by cases detected <;> rfl
@[simp] theorem recoverUnless_count (detected : Bool) (s : State) :
    (recoverUnless detected s).count = s.count := by cases detected <;> rfl
@[simp] theorem recoverUnless_countAdd (detected : Bool) (s : State) :
    (recoverUnless detected s).countAdd = s.countAdd := by cases detected <;> rfl
@[simp] theorem recoverUnless_ovfPend (detected : Bool) (s : State) :
    (recoverUnless detected s).ovfPend = s.ovfPend := by cases detected <;> rfl
@[simp] theorem recoverUnless_sample (detected : Bool) (s : State) :
    (recoverUnless detected s).sample = s.sample := by cases detected <;> rfl
@[simp] theorem recoverUnless_ppsMiss (detected : Bool) (s : State) :
    (recoverUnless detected s).ppsMiss = s.ppsMiss := by cases detected <;> rfl
@[simp] theorem recoverUnless_mode (detected : Bool) (s : State) :
    (recoverUnless detected s).mode = if detected then s.mode else .checkErrors := by cases detected <;> rfl
@[simp] theorem recoverUnless_winSum (detected : Bool) (s : State) :
    (recoverUnless detected s).winSum = s.winSum := by cases detected <;> rfl
@[simp] theorem recoverUnless_winCnt (detected : Bool) (s : State) :
    (recoverUnless detected s).winCnt = s.winCnt := by cases detected <;> rfl
@[simp] theorem recoverUnless_iHist (detected : Bool) (s : State) :
    (recoverUnless detected s).iHist = s.iHist := by cases detected <;> rfl
@[simp] theorem recoverUnless_lockCnt (detected : Bool) (s : State) :
    (recoverUnless detected s).lockCnt = s.lockCnt := by cases detected <;> rfl
@[simp] theorem recoverUnless_minNoAdj (detected : Bool) (s : State) :
    (recoverUnless detected s).minNoAdj = s.minNoAdj := by cases detected <;> rfl
@[simp] theorem recoverUnless_duty (detected : Bool) (s : State) :
    (recoverUnless detected s).duty = s.duty := by cases detected <;> rfl
@[simp] theorem recoverUnless_cmdErr (detected : Bool) (s : State) :
    (recoverUnless detected s).cmdErr = s.cmdErr := by cases detected <;> rfl
@[simp] theorem recoverUnless_errCause (detected : Bool) (s : State) :
    (recoverUnless detected s).errCause = s.errCause := by cases detected <;> rfl
@[simp] theorem recoverUnless_diagSecErr (detected : Bool) (s : State) :
    (recoverUnless detected s).diagSecErr = s.diagSecErr := by cases detected <;> rfl
@[simp] theorem recoverUnless_diagWErr (detected : Bool) (s : State) :
    (recoverUnless detected s).diagWErr = s.diagWErr := by cases detected <;> rfl
@[simp] theorem recoverUnless_diagP (detected : Bool) (s : State) :
    (recoverUnless detected s).diagP = s.diagP := by cases detected <;> rfl
@[simp] theorem recoverUnless_diagI (detected : Bool) (s : State) :
    (recoverUnless detected s).diagI = s.diagI := by cases detected <;> rfl
@[simp] theorem recoverUnless_diagAdj (detected : Bool) (s : State) :
    (recoverUnless detected s).diagAdj = s.diagAdj := by cases detected <;> rfl
@[simp] theorem recoverUnless_diagFlags (detected : Bool) (s : State) :
    (recoverUnless detected s).diagFlags = s.diagFlags := by cases detected <;> rfl

/-! ### clearDiagFlags -/

@[simp] theorem clearDiagFlags_cfg (s : State) : (clearDiagFlags s).cfg = s.cfg := rfl
@[simp] theorem clearDiagFlags_words (s : State) : (clearDiagFlags s).words = s.words := rfl
@[simp] theorem clearDiagFlags_trace (s : State) : (clearDiagFlags s).trace = s.trace := rfl
@[simp] theorem clearDiagFlags_count (s : State) : (clearDiagFlags s).count = s.count := rfl
@[simp] theorem clearDiagFlags_countAdd (s : State) : (clearDiagFlags s).countAdd = s.countAdd := rfl
@[simp] theorem clearDiagFlags_ovfPend (s : State) : (clearDiagFlags s).ovfPend = s.ovfPend := rfl
@[simp] theorem clearDiagFlags_sample (s : State) : (clearDiagFlags s).sample = s.sample := rfl
@[simp] theorem clearDiagFlags_ppsMiss (s : State) : (clearDiagFlags s).ppsMiss = s.ppsMiss := rfl
@[simp] theorem clearDiagFlags_mode (s : State) : (clearDiagFlags s).mode = s.mode := rfl
@[simp] theorem clearDiagFlags_winSum (s : State) : (clearDiagFlags s).winSum = s.winSum := rfl
@[simp] theorem clearDiagFlags_winCnt (s : State) : (clearDiagFlags s).winCnt = s.winCnt := rfl
@[simp] theorem clearDiagFlags_iHist (s : State) : (clearDiagFlags s).iHist = s.iHist := rfl
@[simp] theorem clearDiagFlags_lockCnt (s : State) : (clearDiagFlags s).lockCnt = s.lockCnt := rfl
@[simp] theorem clearDiagFlags_minNoAdj (s : State) : (clearDiagFlags s).minNoAdj = s.minNoAdj := rfl
@[simp] theorem clearDiagFlags_duty (s : State) : (clearDiagFlags s).duty = s.duty := rfl
@[simp] theorem clearDiagFlags_cmdErr (s : State) : (clearDiagFlags s).cmdErr = s.cmdErr := rfl
@[simp] theorem clearDiagFlags_errCause (s : State) : (clearDiagFlags s).errCause = s.errCause := rfl
@[simp] theorem clearDiagFlags_diagSecErr (s : State) : (clearDiagFlags s).diagSecErr = s.diagSecErr := rfl
@[simp] theorem clearDiagFlags_diagWErr (s : State) : (clearDiagFlags s).diagWErr = s.diagWErr := rfl
@[simp] theorem clearDiagFlags_diagP (s : State) : (clearDiagFlags s).diagP = s.diagP := rfl
@[simp] theorem clearDiagFlags_diagI (s : State) : (clearDiagFlags s).diagI = s.diagI := rfl
@[simp] theorem clearDiagFlags_diagAdj (s : State) : (clearDiagFlags s).diagAdj = s.diagAdj := rfl
@[simp] theorem clearDiagFlags_diagFlags (s : State) : (clearDiagFlags s).diagFlags = 0 := rfl

/-! ### consumeSample -/

@[simp] theorem consumeSample_cfg (s : State) : (consumeSample s).cfg = s.cfg := by
  by_cases h : s.sample = 0#64 <;> simp [consumeSample, sampleReady, h]
@[simp] theorem consumeSample_words (s : State) : (consumeSample s).words = s.words := by
  by_cases h : s.sample = 0#64 <;> simp [consumeSample, sampleReady, h]
@[simp] theorem consumeSample_trace (s : State) : (consumeSample s).trace = s.trace := by
  by_cases h : s.sample = 0#64 <;> simp [consumeSample, sampleReady, h]
@[simp] theorem consumeSample_count (s : State) : (consumeSample s).count = s.count := by
  by_cases h : s.sample = 0#64 <;> simp [consumeSample, sampleReady, h]
@[simp] theorem consumeSample_countAdd (s : State) : (consumeSample s).countAdd = s.countAdd := by
  by_cases h : s.sample = 0#64 <;> simp [consumeSample, sampleReady, h]
@[simp] theorem consumeSample_ovfPend (s : State) : (consumeSample s).ovfPend = s.ovfPend := by
  by_cases h : s.sample = 0#64 <;> simp [consumeSample, sampleReady, h]
@[simp] theorem consumeSample_sample (s : State) : (consumeSample s).sample = 0 := by
  by_cases h : s.sample = 0#64 <;> simp [consumeSample, sampleReady, h]
@[simp] theorem consumeSample_ppsMiss (s : State) :
    (consumeSample s).ppsMiss = if s.sample = 0#64 then s.ppsMiss else 0#32 := by
  by_cases h : s.sample = 0#64 <;> simp [consumeSample, sampleReady, h]
@[simp] theorem consumeSample_mode (s : State) : (consumeSample s).mode = s.mode := by
  by_cases h : s.sample = 0#64 <;> simp [consumeSample, sampleReady, h]
@[simp] theorem consumeSample_winSum (s : State) : (consumeSample s).winSum = s.winSum := by
  by_cases h : s.sample = 0#64 <;> simp [consumeSample, sampleReady, h]
@[simp] theorem consumeSample_winCnt (s : State) : (consumeSample s).winCnt = s.winCnt := by
  by_cases h : s.sample = 0#64 <;> simp [consumeSample, sampleReady, h]
@[simp] theorem consumeSample_iHist (s : State) : (consumeSample s).iHist = s.iHist := by
  by_cases h : s.sample = 0#64 <;> simp [consumeSample, sampleReady, h]
@[simp] theorem consumeSample_lockCnt (s : State) : (consumeSample s).lockCnt = s.lockCnt := by
  by_cases h : s.sample = 0#64 <;> simp [consumeSample, sampleReady, h]
@[simp] theorem consumeSample_minNoAdj (s : State) : (consumeSample s).minNoAdj = s.minNoAdj := by
  by_cases h : s.sample = 0#64 <;> simp [consumeSample, sampleReady, h]
@[simp] theorem consumeSample_duty (s : State) : (consumeSample s).duty = s.duty := by
  by_cases h : s.sample = 0#64 <;> simp [consumeSample, sampleReady, h]
@[simp] theorem consumeSample_cmdErr (s : State) : (consumeSample s).cmdErr = s.cmdErr := by
  by_cases h : s.sample = 0#64 <;> simp [consumeSample, sampleReady, h]
@[simp] theorem consumeSample_errCause (s : State) : (consumeSample s).errCause = s.errCause := by
  by_cases h : s.sample = 0#64 <;> simp [consumeSample, sampleReady, h]
@[simp] theorem consumeSample_diagSecErr (s : State) : (consumeSample s).diagSecErr = s.diagSecErr := by
  by_cases h : s.sample = 0#64 <;> simp [consumeSample, sampleReady, h]
@[simp] theorem consumeSample_diagWErr (s : State) : (consumeSample s).diagWErr = s.diagWErr := by
  by_cases h : s.sample = 0#64 <;> simp [consumeSample, sampleReady, h]
@[simp] theorem consumeSample_diagP (s : State) : (consumeSample s).diagP = s.diagP := by
  by_cases h : s.sample = 0#64 <;> simp [consumeSample, sampleReady, h]
@[simp] theorem consumeSample_diagI (s : State) : (consumeSample s).diagI = s.diagI := by
  by_cases h : s.sample = 0#64 <;> simp [consumeSample, sampleReady, h]
@[simp] theorem consumeSample_diagAdj (s : State) : (consumeSample s).diagAdj = s.diagAdj := by
  by_cases h : s.sample = 0#64 <;> simp [consumeSample, sampleReady, h]
@[simp] theorem consumeSample_diagFlags (s : State) : (consumeSample s).diagFlags = s.diagFlags := by
  by_cases h : s.sample = 0#64 <;> simp [consumeSample, sampleReady, h]

/-! ### edgeReport -/

@[simp] theorem edgeReport_cfg (v : Int) (s : State) : (edgeReport v s).cfg = s.cfg := rfl
@[simp] theorem edgeReport_words (v : Int) (s : State) : (edgeReport v s).words = s.words := rfl
@[simp] theorem edgeReport_trace (v : Int) (s : State) :
    (edgeReport v s).trace = s.trace ++ [.strobe .edgeReport] := rfl
@[simp] theorem edgeReport_count (v : Int) (s : State) : (edgeReport v s).count = s.count := rfl
@[simp] theorem edgeReport_countAdd (v : Int) (s : State) : (edgeReport v s).countAdd = s.countAdd := rfl
@[simp] theorem edgeReport_ovfPend (v : Int) (s : State) : (edgeReport v s).ovfPend = s.ovfPend := rfl
@[simp] theorem edgeReport_sample (v : Int) (s : State) : (edgeReport v s).sample = s.sample := rfl
@[simp] theorem edgeReport_ppsMiss (v : Int) (s : State) : (edgeReport v s).ppsMiss = s.ppsMiss := rfl
@[simp] theorem edgeReport_mode (v : Int) (s : State) : (edgeReport v s).mode = s.mode := rfl
@[simp] theorem edgeReport_winSum (v : Int) (s : State) : (edgeReport v s).winSum = s.winSum := rfl
@[simp] theorem edgeReport_winCnt (v : Int) (s : State) : (edgeReport v s).winCnt = s.winCnt := rfl
@[simp] theorem edgeReport_iHist (v : Int) (s : State) : (edgeReport v s).iHist = s.iHist := rfl
@[simp] theorem edgeReport_lockCnt (v : Int) (s : State) : (edgeReport v s).lockCnt = s.lockCnt := rfl
@[simp] theorem edgeReport_minNoAdj (v : Int) (s : State) : (edgeReport v s).minNoAdj = s.minNoAdj := rfl
@[simp] theorem edgeReport_duty (v : Int) (s : State) : (edgeReport v s).duty = s.duty := rfl
@[simp] theorem edgeReport_cmdErr (v : Int) (s : State) : (edgeReport v s).cmdErr = s.cmdErr := rfl
@[simp] theorem edgeReport_errCause (v : Int) (s : State) : (edgeReport v s).errCause = s.errCause := rfl
@[simp] theorem edgeReport_diagSecErr (v : Int) (s : State) :
    (edgeReport v s).diagSecErr = BitVec.ofInt 64 (Config.nominalHz - v) := rfl
@[simp] theorem edgeReport_diagWErr (v : Int) (s : State) : (edgeReport v s).diagWErr = s.diagWErr := rfl
@[simp] theorem edgeReport_diagP (v : Int) (s : State) : (edgeReport v s).diagP = s.diagP := rfl
@[simp] theorem edgeReport_diagI (v : Int) (s : State) : (edgeReport v s).diagI = s.diagI := rfl
@[simp] theorem edgeReport_diagAdj (v : Int) (s : State) : (edgeReport v s).diagAdj = s.diagAdj := rfl
@[simp] theorem edgeReport_diagFlags (v : Int) (s : State) :
    (edgeReport v s).diagFlags = withEdgeRpt s.diagFlags := rfl

/-! ### windowReport -/

@[simp] theorem windowReport_cfg (e p i a : Int) (s : State) : (windowReport e p i a s).cfg = s.cfg := rfl
@[simp] theorem windowReport_words (e p i a : Int) (s : State) : (windowReport e p i a s).words = s.words := rfl
@[simp] theorem windowReport_trace (e p i a : Int) (s : State) :
    (windowReport e p i a s).trace = s.trace ++ [.strobe .windowReport] := rfl
@[simp] theorem windowReport_count (e p i a : Int) (s : State) : (windowReport e p i a s).count = s.count := rfl
@[simp] theorem windowReport_countAdd (e p i a : Int) (s : State) :
    (windowReport e p i a s).countAdd = s.countAdd := rfl
@[simp] theorem windowReport_ovfPend (e p i a : Int) (s : State) : (windowReport e p i a s).ovfPend = s.ovfPend := rfl
@[simp] theorem windowReport_sample (e p i a : Int) (s : State) : (windowReport e p i a s).sample = s.sample := rfl
@[simp] theorem windowReport_ppsMiss (e p i a : Int) (s : State) : (windowReport e p i a s).ppsMiss = s.ppsMiss := rfl
@[simp] theorem windowReport_mode (e p i a : Int) (s : State) : (windowReport e p i a s).mode = s.mode := rfl
@[simp] theorem windowReport_winSum (e p i a : Int) (s : State) : (windowReport e p i a s).winSum = s.winSum := rfl
@[simp] theorem windowReport_winCnt (e p i a : Int) (s : State) : (windowReport e p i a s).winCnt = s.winCnt := rfl
@[simp] theorem windowReport_iHist (e p i a : Int) (s : State) : (windowReport e p i a s).iHist = s.iHist := rfl
@[simp] theorem windowReport_lockCnt (e p i a : Int) (s : State) : (windowReport e p i a s).lockCnt = s.lockCnt := rfl
@[simp] theorem windowReport_minNoAdj (e p i a : Int) (s : State) :
    (windowReport e p i a s).minNoAdj = s.minNoAdj := rfl
@[simp] theorem windowReport_duty (e p i a : Int) (s : State) : (windowReport e p i a s).duty = s.duty := rfl
@[simp] theorem windowReport_cmdErr (e p i a : Int) (s : State) : (windowReport e p i a s).cmdErr = s.cmdErr := rfl
@[simp] theorem windowReport_errCause (e p i a : Int) (s : State) :
    (windowReport e p i a s).errCause = s.errCause := rfl
@[simp] theorem windowReport_diagSecErr (e p i a : Int) (s : State) :
    (windowReport e p i a s).diagSecErr = s.diagSecErr := rfl
@[simp] theorem windowReport_diagWErr (e p i a : Int) (s : State) :
    (windowReport e p i a s).diagWErr = BitVec.ofInt 64 e := rfl
@[simp] theorem windowReport_diagP (e p i a : Int) (s : State) :
    (windowReport e p i a s).diagP = BitVec.ofInt 64 p := rfl
@[simp] theorem windowReport_diagI (e p i a : Int) (s : State) :
    (windowReport e p i a s).diagI = BitVec.ofInt 64 i := rfl
@[simp] theorem windowReport_diagAdj (e p i a : Int) (s : State) :
    (windowReport e p i a s).diagAdj = BitVec.ofInt 64 a := rfl
@[simp] theorem windowReport_diagFlags (e p i a : Int) (s : State) :
    (windowReport e p i a s).diagFlags = withWinRpt s.diagFlags := rfl

/-! ### applyAdjust -/

@[simp] theorem applyAdjust_cfg (a : Int) (s : State) : (applyAdjust a s).cfg = s.cfg := rfl
@[simp] theorem applyAdjust_words (a : Int) (s : State) : (applyAdjust a s).words = s.words := rfl
@[simp] theorem applyAdjust_trace (a : Int) (s : State) :
    (applyAdjust a s).trace = s.trace ++ [.strobe .actuatorWrite] := rfl
@[simp] theorem applyAdjust_count (a : Int) (s : State) : (applyAdjust a s).count = s.count := rfl
@[simp] theorem applyAdjust_countAdd (a : Int) (s : State) : (applyAdjust a s).countAdd = s.countAdd := rfl
@[simp] theorem applyAdjust_ovfPend (a : Int) (s : State) : (applyAdjust a s).ovfPend = s.ovfPend := rfl
@[simp] theorem applyAdjust_sample (a : Int) (s : State) : (applyAdjust a s).sample = s.sample := rfl
@[simp] theorem applyAdjust_ppsMiss (a : Int) (s : State) : (applyAdjust a s).ppsMiss = s.ppsMiss := rfl
@[simp] theorem applyAdjust_mode (a : Int) (s : State) : (applyAdjust a s).mode = s.mode := rfl
@[simp] theorem applyAdjust_winSum (a : Int) (s : State) : (applyAdjust a s).winSum = s.winSum := rfl
@[simp] theorem applyAdjust_winCnt (a : Int) (s : State) : (applyAdjust a s).winCnt = s.winCnt := rfl
@[simp] theorem applyAdjust_iHist (a : Int) (s : State) : (applyAdjust a s).iHist = s.iHist := rfl
@[simp] theorem applyAdjust_lockCnt (a : Int) (s : State) : (applyAdjust a s).lockCnt = s.lockCnt := rfl
@[simp] theorem applyAdjust_minNoAdj (a : Int) (s : State) : (applyAdjust a s).minNoAdj = s.minNoAdj := rfl
@[simp] theorem applyAdjust_duty (a : Int) (s : State) :
    (applyAdjust a s).duty = BitVec.ofInt 16 (clamp ((s.duty.toNat : Int) + a) Config.dutyMin Config.dutyMax) := rfl
@[simp] theorem applyAdjust_cmdErr (a : Int) (s : State) : (applyAdjust a s).cmdErr = s.cmdErr := rfl
@[simp] theorem applyAdjust_errCause (a : Int) (s : State) : (applyAdjust a s).errCause = s.errCause := rfl
@[simp] theorem applyAdjust_diagSecErr (a : Int) (s : State) : (applyAdjust a s).diagSecErr = s.diagSecErr := rfl
@[simp] theorem applyAdjust_diagWErr (a : Int) (s : State) : (applyAdjust a s).diagWErr = s.diagWErr := rfl
@[simp] theorem applyAdjust_diagP (a : Int) (s : State) : (applyAdjust a s).diagP = s.diagP := rfl
@[simp] theorem applyAdjust_diagI (a : Int) (s : State) : (applyAdjust a s).diagI = s.diagI := rfl
@[simp] theorem applyAdjust_diagAdj (a : Int) (s : State) : (applyAdjust a s).diagAdj = s.diagAdj := rfl
@[simp] theorem applyAdjust_diagFlags (a : Int) (s : State) :
    (applyAdjust a s).diagFlags = withDutyWr s.diagFlags := rfl

/-! ### applyAndSettle -/

@[simp] theorem applyAndSettle_cfg (a : Int) (s : State) : (applyAndSettle a s).cfg = s.cfg := rfl
@[simp] theorem applyAndSettle_words (a : Int) (s : State) : (applyAndSettle a s).words = s.words := rfl
@[simp] theorem applyAndSettle_trace (a : Int) (s : State) :
    (applyAndSettle a s).trace = s.trace ++ [.strobe .actuatorWrite] := rfl
@[simp] theorem applyAndSettle_count (a : Int) (s : State) : (applyAndSettle a s).count = s.count := rfl
@[simp] theorem applyAndSettle_countAdd (a : Int) (s : State) : (applyAndSettle a s).countAdd = s.countAdd := rfl
@[simp] theorem applyAndSettle_ovfPend (a : Int) (s : State) : (applyAndSettle a s).ovfPend = s.ovfPend := rfl
@[simp] theorem applyAndSettle_sample (a : Int) (s : State) : (applyAndSettle a s).sample = s.sample := rfl
@[simp] theorem applyAndSettle_ppsMiss (a : Int) (s : State) : (applyAndSettle a s).ppsMiss = s.ppsMiss := rfl
@[simp] theorem applyAndSettle_mode (a : Int) (s : State) : (applyAndSettle a s).mode = s.mode := rfl
@[simp] theorem applyAndSettle_winSum (a : Int) (s : State) : (applyAndSettle a s).winSum = s.winSum := rfl
@[simp] theorem applyAndSettle_winCnt (a : Int) (s : State) :
    (applyAndSettle a s).winCnt = BitVec.ofInt 32 (-Config.adjustSettle) := rfl
@[simp] theorem applyAndSettle_iHist (a : Int) (s : State) : (applyAndSettle a s).iHist = s.iHist := rfl
@[simp] theorem applyAndSettle_lockCnt (a : Int) (s : State) : (applyAndSettle a s).lockCnt = s.lockCnt := rfl
@[simp] theorem applyAndSettle_minNoAdj (a : Int) (s : State) : (applyAndSettle a s).minNoAdj = s.minNoAdj := rfl
@[simp] theorem applyAndSettle_duty (a : Int) (s : State) :
    (applyAndSettle a s).duty = BitVec.ofInt 16 (clamp ((s.duty.toNat : Int) + a) Config.dutyMin Config.dutyMax) := rfl
@[simp] theorem applyAndSettle_cmdErr (a : Int) (s : State) : (applyAndSettle a s).cmdErr = s.cmdErr := rfl
@[simp] theorem applyAndSettle_errCause (a : Int) (s : State) : (applyAndSettle a s).errCause = s.errCause := rfl
@[simp] theorem applyAndSettle_diagSecErr (a : Int) (s : State) :
    (applyAndSettle a s).diagSecErr = s.diagSecErr := rfl
@[simp] theorem applyAndSettle_diagWErr (a : Int) (s : State) : (applyAndSettle a s).diagWErr = s.diagWErr := rfl
@[simp] theorem applyAndSettle_diagP (a : Int) (s : State) : (applyAndSettle a s).diagP = s.diagP := rfl
@[simp] theorem applyAndSettle_diagI (a : Int) (s : State) : (applyAndSettle a s).diagI = s.diagI := rfl
@[simp] theorem applyAndSettle_diagAdj (a : Int) (s : State) : (applyAndSettle a s).diagAdj = s.diagAdj := rfl
@[simp] theorem applyAndSettle_diagFlags (a : Int) (s : State) :
    (applyAndSettle a s).diagFlags = withDutyWr s.diagFlags := rfl

end Sys2Proof.Machine
end

