-- ==== Sys2Proof/Laws/Ops.lean ====
section
/-! SUPPORT. The values of the fixed parameters, and what each shared operation on numbers gives. -/

namespace Sys2Proof.Machine

@[simp] theorem config_wrapSize : Config.wrapSize = 65536 := rfl
@[simp] theorem config_nominalHz : Config.nominalHz = 10000000 := rfl
@[simp] theorem config_sampleSeconds : Config.sampleSeconds = 8 := rfl
@[simp] theorem config_sampleMinute : Config.sampleMinute = 60 := rfl
@[simp] theorem config_fastSettle : Config.fastSettle = 5 := rfl
@[simp] theorem config_fastLockWindows : Config.fastLockWindows = 5 := rfl
@[simp] theorem config_adjLimit : Config.adjLimit = 32000 := rfl
@[simp] theorem config_slowUnlockError : Config.slowUnlockError = 128 := rfl
@[simp] theorem config_noPpsThreshold : Config.noPpsThreshold = 15000000 := rfl
@[simp] theorem config_ppsMissLimit : Config.ppsMissLimit = 14 := rfl
@[simp] theorem config_dutyMin : Config.dutyMin = 1 := rfl
@[simp] theorem config_dutyMax : Config.dutyMax = 65535 := rfl
@[simp] theorem config_adjustSettle : Config.adjustSettle = 1 := rfl

/-! ### Numbers (R11) -/

theorem clamp_eq {a lo hi : Int} (h : lo ≤ hi) : clamp a lo hi = max lo (min hi a) := by
  unfold clamp; split <;> [skip; split] <;> omega

theorem clamp_bounds {a lo hi : Int} (h : lo ≤ hi) : lo ≤ clamp a lo hi ∧ clamp a lo hi ≤ hi := by
  unfold clamp; split <;> [skip; split] <;> omega

theorem clampAdjust_eq (a : Int) : clampAdjust a = max (-32000) (min 32000 a) :=
  clamp_eq (by decide)

theorem clampAdjust_bounds (a : Int) : -32000 ≤ clampAdjust a ∧ clampAdjust a ≤ 32000 :=
  clamp_bounds (by decide)

theorem absInt_eq (a : Int) : absInt a = |a| := by
  unfold absInt; split
  · rw [abs_of_neg ‹_›]
  · rw [abs_of_nonneg (by omega)]

theorem satIncU32_toNat (v : BitVec 32) : (satIncU32 v).toNat = min (v.toNat + 1) 4294967295 := by
  rw [satIncU32, BitVec.toNat_ofNat]; omega

theorem satIncS32_toInt (v : BitVec 32) : (satIncS32 v).toInt = min (v.toInt + 1) 2147483647 := by
  have := v.toInt_lt
  have := v.le_toInt
  rw [satIncS32, BitVec.toInt_ofInt]
  apply Int.bmod_eq_of_le <;> omega

theorem satDecS32_toInt (v : BitVec 32) : (satDecS32 v).toInt = max (v.toInt - 1) (-2147483648) := by
  have := v.toInt_lt
  have := v.le_toInt
  rw [satDecS32, BitVec.toInt_ofInt]
  apply Int.bmod_eq_of_le <;> omega

/-- Storing an integer within a register's signed range and reading it back gives it. -/
theorem toInt_ofInt_of_range {w : Nat} (hw : 0 < w) {a : Int} (lo : -2 ^ (w - 1) ≤ a) (hi : a < 2 ^ (w - 1)) :
    (BitVec.ofInt w a).toInt = a := by
  have : ((2 ^ w : Nat) : Int) = 2 * 2 ^ (w - 1) := by
    obtain ⟨n, rfl⟩ : ∃ n, w = n + 1 := ⟨w - 1, by omega⟩
    push_cast
    simp [pow_succ]
    ring
  rw [BitVec.toInt_ofInt]
  apply Int.bmod_eq_of_le_mul_two <;> rw [this] <;> omega

/-- The value `applyAdjust` stores into DUTY is the clamped one, unchanged by its 16 bits. -/
theorem dutyStore_toNat (a : Int) :
    ((BitVec.ofInt 16 (clamp a Config.dutyMin Config.dutyMax)).toNat : Int) = max 1 (min 65535 a) := by
  rw [clamp_eq (by decide), BitVec.toNat_ofInt]
  simp only [config_dutyMin, config_dutyMax]
  omega

/-! ### Operands and registers -/

theorem regName_regNumber (r : RegName) : regName (regNumber r) = some r := by
  cases r <;> rfl

theorem regName_eq_none {reg : BitVec 5} : regName reg = none ↔ 19 ≤ reg.toNat := by
  revert reg; decide

theorem modeOfCode_modeCode (m : Mode) : modeOfCode (modeCode m) = some m := by
  cases m <;> rfl

theorem modeOfCode_eq_none {code : BitVec 4} : modeOfCode code = none ↔ 12 ≤ code.toNat := by
  revert code; decide

/-! ### Control-loop operations -/

/-- Everything one window sample can do (R164, R165, R175, R176): settle, accumulate, or close. -/
theorem windowStep_cases (size sample : Int) (s : State) :
    (s.winCnt.toInt < 0
        ∧ windowStep size sample s = ({ s with winCnt := BitVec.ofInt 32 (s.winCnt.toInt + 1) }, none))
      ∨ (0 ≤ s.winCnt.toInt ∧ s.winCnt.toInt + 1 < size
        ∧ windowStep size sample s =
          ({ s with
              winSum := BitVec.ofInt 64 (s.winSum.toInt + sample)
              winCnt := BitVec.ofInt 32 (s.winCnt.toInt + 1) }, none))
      ∨ (0 ≤ s.winCnt.toInt ∧ size ≤ s.winCnt.toInt + 1
        ∧ windowStep size sample s =
          ({ s with winSum := 0, winCnt := 0 }, some (BitVec.ofInt 64 (s.winSum.toInt + sample)).toInt)) := by
  unfold windowStep
  by_cases h1 : s.winCnt.toInt < 0
  · exact .inl ⟨h1, by simp only [h1, if_true]⟩
  · by_cases h2 : s.winCnt.toInt + 1 < size
    · exact .inr (.inl ⟨by omega, h2, by simp only [h1, h2, if_true, if_false]⟩)
    · exact .inr (.inr ⟨by omega, by omega, by simp only [h1, h2, if_false]⟩)

/-- The next IHIST as an integer (R180). -/
theorem nextIHist_toInt (error : Int) (h : BitVec 32) :
    (nextIHist error h).toInt =
      if 0 ≤ error ∧ 0 ≤ h.toInt then min (h.toInt + 1) 2147483647
      else if error ≤ 0 ∧ h.toInt ≤ 0 then max (h.toInt - 1) (-2147483648) else 0 := by
  unfold nextIHist
  split
  · exact satIncS32_toInt h
  · split
    · exact satDecS32_toInt h
    · rfl

/-- A truncated quotient times the clamped error (R168, R169). -/
theorem fastProportional_eq {cfg : Cfg} (h : 0 ≤ cfg.fastMaxError) (error : Int) :
    fastProportional cfg error = cfg.fastGain / 8 * max (-cfg.fastMaxError) (min cfg.fastMaxError error) := by
  rw [fastProportional, clamp_eq (by omega)]

end Sys2Proof.Machine
end

