-- ==== Sys2Proof/Laws/Pass.lean ====
section
/-! SUPPORT. PASS in terms of the spec's own words: phase 1 is `State.snapped`, the detection predicates are the four
faults, and with no fault a pass is the handler of its mode. -/

namespace Sys2Proof.Machine

theorem passPhaseOne_eq (s : State) : passPhaseOne s = s.snapped := by
  by_cases h : s.sample = 0#64 <;>
    simp [passPhaseOne, State.snapped, sampleReady, consumeSample, clearDiagFlags, edgeReport, drive, withEdgeRpt, h]

theorem snapped_of_ready {s : State} (h : s.sample ≠ 0) :
    s.snapped = { s with
      sample := 0
      ppsMiss := 0
      diagSecErr := BitVec.ofInt 64 (10000000 - s.sample.toInt)
      diagFlags := 1
      trace := s.trace ++ [.strobe .edgeReport] } := if_neg h

theorem snapped_of_not_ready {s : State} (h : s.sample = 0) : s.snapped = { s with diagFlags := 0 } := if_pos h

@[simp] theorem snapped_cfg (s : State) : s.snapped.cfg = s.cfg := by unfold State.snapped; split <;> rfl
@[simp] theorem snapped_words (s : State) : s.snapped.words = s.words := by unfold State.snapped; split <;> rfl
@[simp] theorem snapped_count (s : State) : s.snapped.count = s.count := by unfold State.snapped; split <;> rfl
@[simp] theorem snapped_countAdd (s : State) : s.snapped.countAdd = s.countAdd := by unfold State.snapped; split <;> rfl
@[simp] theorem snapped_ovfPend (s : State) : s.snapped.ovfPend = s.ovfPend := by unfold State.snapped; split <;> rfl
@[simp] theorem snapped_mode (s : State) : s.snapped.mode = s.mode := by unfold State.snapped; split <;> rfl
@[simp] theorem snapped_winSum (s : State) : s.snapped.winSum = s.winSum := by unfold State.snapped; split <;> rfl
@[simp] theorem snapped_winCnt (s : State) : s.snapped.winCnt = s.winCnt := by unfold State.snapped; split <;> rfl
@[simp] theorem snapped_iHist (s : State) : s.snapped.iHist = s.iHist := by unfold State.snapped; split <;> rfl
@[simp] theorem snapped_lockCnt (s : State) : s.snapped.lockCnt = s.lockCnt := by unfold State.snapped; split <;> rfl
@[simp] theorem snapped_minNoAdj (s : State) : s.snapped.minNoAdj = s.minNoAdj := by unfold State.snapped; split <;> rfl
@[simp] theorem snapped_duty (s : State) : s.snapped.duty = s.duty := by unfold State.snapped; split <;> rfl
@[simp] theorem snapped_cmdErr (s : State) : s.snapped.cmdErr = s.cmdErr := by unfold State.snapped; split <;> rfl
@[simp] theorem snapped_errCause (s : State) : s.snapped.errCause = s.errCause := by unfold State.snapped; split <;> rfl
@[simp] theorem snapped_diagWErr (s : State) : s.snapped.diagWErr = s.diagWErr := by unfold State.snapped; split <;> rfl
@[simp] theorem snapped_diagP (s : State) : s.snapped.diagP = s.diagP := by unfold State.snapped; split <;> rfl
@[simp] theorem snapped_diagI (s : State) : s.snapped.diagI = s.diagI := by unfold State.snapped; split <;> rfl
@[simp] theorem snapped_diagAdj (s : State) : s.snapped.diagAdj = s.diagAdj := by unfold State.snapped; split <;> rfl

theorem passInputs_ready {cold lost : Bool} {s : State} : (passInputs cold lost s).ready = true ↔ s.sample ≠ 0 := by
  simp [passInputs, sampleReady]

theorem passInputs_sample (cold lost : Bool) (s : State) : (passInputs cold lost s).sample = s.sample.toInt := rfl

theorem detectOscCold_iff {cold lost : Bool} {s : State} :
    detectOscCold (passInputs cold lost s) = true ↔ s.ColdFault cold := by
  simp [detectOscCold, passInputs, effectiveCold, State.ColdFault, and_comm]

theorem detectNoGpsLock_iff {cold lost : Bool} {s : State} :
    detectNoGpsLock (passInputs cold lost s) = true ↔ s.LostFault lost := by
  simp [detectNoGpsLock, passInputs, effectiveLost, State.LostFault, and_comm]

theorem detectNoGpsPps_iff {cold lost : Bool} {s : State} :
    detectNoGpsPps (passInputs cold lost s) = true ↔ s.PpsFault := decide_eq_true_iff

theorem detectNoOscClock_iff {cold lost : Bool} {s : State} :
    detectNoOscClock (passInputs cold lost s) = true ↔ s.ClockFault := by
  by_cases h : s.sample = 0#64 <;> simp [detectNoOscClock, passInputs, sampleReady, State.ClockFault, h]

theorem faultEntry_of_noFault {cold lost : Bool} {s : State} (h : s.NoFault cold lost) (m : Mode) :
    faultEntry (passInputs cold lost s) m = none := by
  simp [faultEntry, detectOscCold_iff, detectNoGpsLock_iff, detectNoGpsPps_iff, detectNoOscClock_iff, h.cold, h.lost,
    h.pps, h.clock]

/-- Fault entry enters only a fault mode, and only from a mode that is none (R141). -/
theorem faultEntry_eq_some {p : PassInputs} {m m' : Mode} (h : faultEntry p m = some m') :
    isFaultMode m = false ∧ isFaultMode m' = true := by
  unfold faultEntry at h
  split at h
  · cases h
  · refine ⟨by simpa using ‹¬ isFaultMode m = true›, ?_⟩
    repeat' split at h
    all_goals cases h
    all_goals rfl

/-- PASS in its phases (R120). -/
theorem exec_pass_eq (cold lost : Bool) (s : State) :
    exec (.pass cold lost) s = .next (passPhasesTwoThree (passInputs cold lost s) s.snapped) := by
  rw [exec, execPass, passPhaseOne_eq]

/-- With no fault, a PASS is its mode's handler on the state phase 1 leaves. -/
theorem exec_pass_of_noFault {cold lost : Bool} {s : State} (h : s.NoFault cold lost) :
    exec (.pass cold lost) s = .next (handler (passInputs cold lost s) s.snapped) := by
  rw [exec_pass_eq, passPhasesTwoThree, faultEntry_of_noFault h]

/-- A PASS either enters a fault mode, writing only MODE after phase 1, or runs its mode's handler. -/
theorem passPhasesTwoThree_cases (p : PassInputs) (s : State) :
    (∃ m, faultEntry p s.mode = some m ∧ passPhasesTwoThree p s = enterFaultMode m s)
      ∨ (faultEntry p s.mode = none ∧ passPhasesTwoThree p s = handler p s) := by
  unfold passPhasesTwoThree
  cases h : faultEntry p s.mode with
  | none => exact .inr ⟨rfl, rfl⟩
  | some m => exact .inl ⟨m, rfl, rfl⟩

end Sys2Proof.Machine
end

