-- ==== Sys2Proof/Laws/ControlLoop.lean ====
section
/-! SUPPORT. What the window operations of FAST and SLOW can do, in the terms claims use. -/

namespace Sys2Proof.Machine

theorem windowReport_eq_reported (e p i a : Int) (s : State) : windowReport e p i a s = s.reported e p i a := rfl

theorem applyAndSettle_eq_adjusted (a : Int) (s : State) : applyAndSettle a s = s.adjusted a := by
  simp only [applyAndSettle, applyAdjust, State.adjusted, drive]
  rw [clamp_eq (by decide)]
  rfl

/-- Counting a sample is the register's own increment. -/
theorem winCnt_succ (v : BitVec 32) : BitVec.ofInt 32 (v.toInt + 1) = v + 1 := by
  rw [BitVec.ofInt_add]
  simp

/-- Accumulating a sample is 64-bit addition. -/
theorem winSum_add (v u : BitVec 64) : BitVec.ofInt 64 (v.toInt + u.toInt) = v + u := by
  rw [BitVec.ofInt_add]
  simp

/-- A counted FAST window, while LOCKCNT is in its legal range. -/
theorem lockCnt_succ {l : BitVec 8} (h : l.toNat ≤ 5) : (BitVec.ofInt 8 ((l.toNat : Int) + 1)).toNat = l.toNat + 1 := by
  rw [BitVec.toNat_ofInt]
  omega

/-- A FAST pass whose sample closes the window. -/
theorem exec_pass_fast_close {s : State} {cold lost : Bool} (hm : s.mode = .fast) (hf : s.NoFault cold lost)
    (h0 : s.sample ≠ 0) (hw : 7 ≤ s.winCnt.toInt) :
    exec (.pass cold lost) s = .next (fastClose s.fastError { s.snapped with winSum := 0, winCnt := 0 }) := by
  have h1 : ¬ s.winCnt.toInt < 0 := by omega
  have h2 : ¬ s.winCnt.toInt + 1 < 8 := by omega
  rw [exec_pass_of_noFault hf]
  simp only [handler, snapped_mode, hm, handleFast, passInputs_ready.mpr h0, if_true, windowStep, snapped_winCnt, h1,
    if_false, h2, config_sampleSeconds, config_nominalHz, snapped_winSum, passInputs_sample]
  rfl

/-- A SLOW pass whose sample closes the window. -/
theorem exec_pass_slow_close {s : State} {cold lost : Bool} (hm : s.mode = .slow) (hf : s.NoFault cold lost)
    (h0 : s.sample ≠ 0) (hw : 59 ≤ s.winCnt.toInt) :
    exec (.pass cold lost) s = .next (slowClose s.slowError { s.snapped with winSum := 0, winCnt := 0 }) := by
  have h1 : ¬ s.winCnt.toInt < 0 := by omega
  have h2 : ¬ s.winCnt.toInt + 1 < 60 := by omega
  rw [exec_pass_of_noFault hf]
  simp only [handler, snapped_mode, hm, handleSlow, passInputs_ready.mpr h0, if_true, windowStep, snapped_winCnt, h1,
    if_false, h2, config_sampleMinute, config_nominalHz, snapped_winSum, passInputs_sample]
  rfl

/-- Everything the end of a FAST window's adjustment can do (R168 to R171). -/
theorem fastAdjust_cases (error : Int) (s : State) :
    ∃ p adj, p = fastProportional s.cfg error ∧ adj = clampAdjust p
      ∧ ((adj ≠ 0 ∧ fastAdjust error s = (s.adjusted adj).reported error p 0 adj)
        ∨ (adj = 0 ∧ fastAdjust error s = s.reported error p 0 0)) := by
  refine ⟨_, _, rfl, rfl, ?_⟩
  by_cases h : clampAdjust (fastProportional s.cfg error) = 0
  · refine .inr ⟨h, ?_⟩
    simp only [fastAdjust, h, ne_eq, not_true_eq_false, if_false, windowReport_eq_reported]
  · refine .inl ⟨h, ?_⟩
    simp only [fastAdjust, h, ne_eq, not_false_eq_true, if_true, windowReport_eq_reported, applyAndSettle_eq_adjusted]

/-- Everything a FAST window close can do (R167): it completes the lock, or it adjusts with LOCKCNT counted or cleared. -/
theorem fastClose_cases (error : Int) (s : State) :
    (absInt error ≤ s.cfg.fastErrorBand ∧ 5 ≤ (BitVec.ofInt 8 ((s.lockCnt.toNat : Int) + 1)).toNat
        ∧ fastClose error s =
          State.reported { s with
            lockCnt := BitVec.ofInt 8 ((s.lockCnt.toNat : Int) + 1)
            mode := .slowInit } error 0 0 0)
      ∨ (absInt error ≤ s.cfg.fastErrorBand ∧ (BitVec.ofInt 8 ((s.lockCnt.toNat : Int) + 1)).toNat < 5
        ∧ fastClose error s = fastAdjust error { s with lockCnt := BitVec.ofInt 8 ((s.lockCnt.toNat : Int) + 1) })
      ∨ (s.cfg.fastErrorBand < absInt error ∧ fastClose error s = fastAdjust error { s with lockCnt := 0 }) := by
  by_cases h : absInt error ≤ s.cfg.fastErrorBand
  · by_cases h5 : 5 ≤ (BitVec.ofInt 8 ((s.lockCnt.toNat : Int) + 1)).toNat
    · refine .inl ⟨h, h5, ?_⟩
      rw [fastClose, if_pos h]
      simp only [config_fastLockWindows, h5, if_true, windowReport_eq_reported]
    · refine .inr (.inl ⟨h, by omega, ?_⟩)
      rw [fastClose, if_pos h]
      simp only [config_fastLockWindows, h5, if_false]
  · exact .inr (.inr ⟨by omega, by rw [fastClose, if_neg h]⟩)

/-- Everything a SLOW window close can do (R178 to R183): it demotes, it adjusts, or it counts a window without
adjustment. -/
theorem slowClose_cases (error : Int) (s : State) :
    (128 < absInt error ∧ slowClose error s = State.reported { s with mode := .fastInit } error 0 0 0)
      ∨ (absInt error ≤ 128 ∧ ∃ p i adj, p = slowProportional s.cfg error
        ∧ i = slowIntegral s.cfg (nextIHist error s.iHist) ∧ adj = clampAdjust (p + i)
        ∧ ((adj ≠ 0 ∧ slowClose error s =
            State.reported { State.adjusted { s with iHist := nextIHist error s.iHist } adj with minNoAdj := 0 }
              error p i adj)
          ∨ (adj = 0 ∧ slowClose error s =
            State.reported { s with iHist := nextIHist error s.iHist, minNoAdj := satIncU32 s.minNoAdj }
              error p i 0))) := by
  by_cases h : 128 < absInt error
  · exact .inl ⟨h, by rw [slowClose, if_pos h]; rfl⟩
  · refine .inr ⟨by omega, _, _, _, rfl, rfl, rfl, ?_⟩
    rw [slowClose, if_neg h]
    by_cases h0 : clampAdjust (slowProportional s.cfg error + slowIntegral s.cfg (nextIHist error s.iHist)) = 0
    · refine .inr ⟨h0, ?_⟩
      simp only [slowAdjust, slowApply, h0, ne_eq, not_true_eq_false, if_false, windowReport_eq_reported]
    · refine .inl ⟨h0, ?_⟩
      simp only [slowAdjust, slowApply, h0, ne_eq, not_false_eq_true, if_true, windowReport_eq_reported,
        applyAndSettle_eq_adjusted]

end Sys2Proof.Machine
end

