-- ==== Sys2Proof/Laws/Step.lean ====
section
/-! SUPPORT. What a step is, by what its next word decodes to, and that every transaction answers a next state. -/

namespace Sys2Proof.Machine

theorem step_of_empty {s : State} (h : s.words = []) : step s = .next s := by
  simp only [step, takeWord, h]

theorem step_of_cons {s : State} {w : Word} {rest : List Word} (h : s.words = w :: rest) :
    step s = issueWord w { s with words := rest } := by
  simp only [step, takeWord, h]

theorem issueWord_of_instr {w : Word} {i : Instr} (h : decode w = .instr i) (s : State) :
    issueWord w s = exec i s := by
  simp only [issueWord, h]

theorem issueWord_of_rejected {w : Word} {cause : CmdCause} (h : decode w = .rejected cause) (s : State) :
    issueWord w s = .next (raiseCmdError cause s) := by
  simp only [issueWord, h]

/-- Every transaction answers exactly one next state; this names it. -/
theorem exec_ovf_eq (s : State) : exec .ovf s = .next { s with ovfPend := true } := rfl

theorem exec_wrap_of_pending {s : State} (h : s.ovfPend = true) :
    exec .wrap s = .next { s with
      count := BitVec.ofInt 64 (s.count.toInt + s.countAdd.toNat)
      countAdd := 65536
      ovfPend := false } := by
  simp only [exec, execWrap, h, if_true]
  rfl

theorem exec_wrap_of_idle {s : State} (h : s.ovfPend = false) : exec .wrap s = .next s := by
  simp [exec, execWrap, h]

theorem exec_rdreg_of_name {reg : BitVec 5} {r : RegName} (h : regName reg = some r) (s : State) :
    exec (.rdreg reg) s = .next (drive (.rdata (readValue s r)) s) := by
  simp only [exec, execRdreg, h]

theorem exec_rdreg_of_unassigned {reg : BitVec 5} (h : regName reg = none) (s : State) :
    exec (.rdreg reg) s = .next (raiseCmdError .badRegister s) := by
  simp only [exec, execRdreg, h]

/-- A step takes one of three courses: no word, a transaction, or a rejected word. -/
theorem step_cases (s : State) :
    (s.words = [] ∧ step s = .next s)
      ∨ (∃ w rest i, s.words = w :: rest ∧ decode w = .instr i ∧ step s = exec i { s with words := rest })
      ∨ ∃ w rest cause, s.words = w :: rest ∧ decode w = .rejected cause
        ∧ step s = .next (raiseCmdError cause { s with words := rest }) := by
  cases hw : s.words with
  | nil => exact .inl ⟨rfl, step_of_empty hw⟩
  | cons w rest =>
    cases hd : decode w with
    | instr i => exact .inr (.inl ⟨w, rest, i, rfl, hd, by rw [step_of_cons hw, issueWord_of_instr hd]⟩)
    | rejected c => exact .inr (.inr ⟨w, rest, c, rfl, hd, by rw [step_of_cons hw, issueWord_of_rejected hd]⟩)

end Sys2Proof.Machine
end

