-- ==== Sys2Proof/Laws/Encoding.lean ====
section
/-! SUPPORT. Words and their fields as numbers: what each field of a word is, what each encoded word is, and what decoding
asks of a word. -/

namespace Sys2Proof

theorem toNat_append_eq {m n : Nat} (x : BitVec m) (y : BitVec n) : (x ++ y).toNat = x.toNat * 2 ^ n + y.toNat := by
  rw [BitVec.toNat_append, ← Nat.shiftLeft_add_eq_or_of_lt y.isLt, Nat.shiftLeft_eq]

theorem toNat_extract (w : Word) (lo len : Nat) : (w.extractLsb' lo len).toNat = w.toNat / 2 ^ lo % 2 ^ len := by
  rw [BitVec.extractLsb'_toNat, Nat.shiftRight_eq_div_pow]

theorem fieldOp_toNat (w : Word) : (fieldOp w).toNat = w.toNat / 2 ^ 28 := by
  have := w.isLt
  rw [fieldOp, toNat_extract]
  omega

theorem fieldOp_eq_iff (w : Word) (op : Nat) (h : op < 16) : fieldOp w = BitVec.ofNat 4 op ↔ w.toNat / 2 ^ 28 = op := by
  rw [← fieldOp_toNat]
  constructor
  · intro e
    rw [e, BitVec.toNat_ofNat]
    omega
  · intro e
    apply BitVec.eq_of_toNat_eq
    rw [e, BitVec.toNat_ofNat]
    omega

theorem fieldC_toNat (w : Word) : (fieldC w).toNat = w.toNat % 2 ^ 16 := by
  rw [fieldC, toNat_extract]
  omega

theorem fieldReg_toNat (w : Word) : (fieldReg w).toNat = w.toNat % 2 ^ 5 := by
  rw [fieldReg, toNat_extract]
  omega

theorem extract_eq_zero_iff (w : Word) (lo len : Nat) : w.extractLsb' lo len = 0 ↔ w.toNat / 2 ^ lo % 2 ^ len = 0 := by
  rw [← toNat_extract]
  exact ⟨fun e => by rw [e]; rfl, fun e => BitVec.eq_of_toNat_eq e⟩

/-! ### Serialization (R52) -/

@[simp] theorem length_bytesOfBits {w : Nat} (count : Nat) (v : BitVec w) : (bytesOfBits count v).length = count := by
  simp [bytesOfBits]

theorem getElem?_bytesOfBits {w : Nat} {count k : Nat} (h : k < count) (v : BitVec w) :
    (bytesOfBits count v)[k]? = some (v.extractLsb' (8 * k) 8) := by
  simp [bytesOfBits, h]

/-! ### What decoding asks of a word -/

theorem unlessReserved_eq_instr {n : Nat} {rsv : BitVec n} {i j : Instr} :
    unlessReserved rsv i = .instr j ↔ rsv = 0 ∧ i = j := by
  by_cases h : rsv = 0#n <;> simp [unlessReserved, h]

theorem unlessReserved_eq_reserved {n : Nat} {rsv : BitVec n} {i : Instr} :
    unlessReserved rsv i = .rejected .reservedNonzero ↔ rsv ≠ 0 := by
  by_cases h : rsv = 0#n <;> simp [unlessReserved, h]

theorem unlessReserved_ne_illegal {n : Nat} {rsv : BitVec n} {i : Instr} :
    unlessReserved rsv i ≠ .rejected .illegalOp := by
  unfold unlessReserved
  split <;> simp

theorem encode_edge_toNat (c : BitVec 16) : (encode (.edge c)).toNat = 0x30000000 + c.toNat := by
  rw [encode, toNat_append_eq]
  rfl

theorem encode_pass_toNat (cold lost : Bool) :
    (encode (.pass cold lost)).toNat = 0x40000000 + 2 * lost.toNat + cold.toNat := by
  cases cold <;> cases lost <;> rfl

theorem encode_rdreg_toNat (reg : BitVec 5) : (encode (.rdreg reg)).toNat = 0x50000000 + reg.toNat := by
  rw [encode, toNat_append_eq]
  rfl

end Sys2Proof
end

