-- ==== Sys2Proof/Laws/PerInstr.lean ====
section
/-! SUPPORT. A family of facts about each transaction as syntax: its word matches its row of spec/opcode_table.json under
the row's mask, and its operands are in range. -/

namespace Sys2Proof.Laws.TableRow

/-- The "mask" of a transaction's row of spec/opcode_table.json. -/
def rowMask : Instr → Word
  | .ovf => 0xFFFFFFFF#32
  | .wrap => 0xFFFFFFFF#32
  | .edge _ => 0xFFFF0000#32
  | .pass _ _ => 0xFFFFFFFC#32
  | .rdreg _ => 0xFFFFFFE0#32

/-- The "match" of a transaction's row of spec/opcode_table.json. -/
def rowMatch : Instr → Word
  | .ovf => 0x10000000#32
  | .wrap => 0x20000000#32
  | .edge _ => 0x30000000#32
  | .pass _ _ => 0x40000000#32
  | .rdreg _ => 0x50000000#32

/-- The word of a transaction matches its row, and the transaction is well formed. -/
def Statement (i : Instr) : Prop := encode i &&& rowMask i = rowMatch i ∧ i.wellFormed = true

theorem ovf : Statement .ovf := by unfold Statement; decide

theorem wrap : Statement .wrap := by unfold Statement; decide

theorem edge (c : BitVec 16) : Statement (.edge c) := by
  refine ⟨?_, by simp [Instr.wellFormed, Instr.asmLine, AsmLine.wellFormed]; omega⟩
  show (0x3000#16 ++ c) &&& (0xFFFF#16 ++ 0x0000#16) = (0x3000#16 ++ 0x0000#16)
  rw [BitVec.and_append]
  simp

theorem pass (cold lost : Bool) : Statement (.pass cold lost) := by
  unfold Statement
  revert cold lost
  decide

theorem rdreg (reg : BitVec 5) : Statement (.rdreg reg) := by
  unfold Statement
  revert reg
  decide

end Sys2Proof.Laws.TableRow
end

