-- ==== Sys2Proof/Tests/Slice0.lean ====
section
/-! SUPPORT. The model's own tests. Expected results are the spec's: the words of 30_encoding.md, the vectors of
95_test_vectors.md (named in each comment; tests on its example configuration, which State.reset takes), and, for each statement with hypotheses, a state and operands that meet them. -/

namespace Sys2Proof.Tests

open Sys2Proof.Machine

/-! ### Well-formedness: one ill-formed line for each check -/

theorem test_wf_edge_range : (AsmLine.edge 65536).wellFormed = false ∧ (AsmLine.edge 65535).wellFormed = true := by decide

theorem test_wf_pass_cold_range : (AsmLine.pass 2 0).wellFormed = false := by decide

theorem test_wf_pass_lost_range : (AsmLine.pass 0 2).wellFormed = false ∧ (AsmLine.pass 1 1).wellFormed = true := by
  decide

theorem test_wf_rdreg_range : (AsmLine.rdregNumber 32).wellFormed = false ∧ (AsmLine.rdregNumber 31).wellFormed = true := by
  decide

theorem test_wf_second_range : (AsmLine.second 152 65536).wellFormed = false := by decide

theorem test_cfg_negative_fields :
    cfgAdmitted { Config.exampleCfg with fastGain := -1 } = false
      ∧ cfgAdmitted { Config.exampleCfg with fastErrorBand := -1 } = false
      ∧ cfgAdmitted { Config.exampleCfg with fastMaxError := -1 } = false
      ∧ cfgAdmitted { Config.exampleCfg with slowGainP := -1 } = false
      ∧ cfgAdmitted { Config.exampleCfg with slowErrorBandP := -1 } = false
      ∧ cfgAdmitted { Config.exampleCfg with slowGainI := -1 } = false
      ∧ cfgAdmitted { Config.exampleCfg with slowErrorBandI := -1 } = false := by decide

theorem test_cfg_duty_and_status :
    cfgAdmitted { Config.exampleCfg with dutyInit := 0 } = false
      ∧ cfgAdmitted { Config.exampleCfg with dutyInit := 65536 } = false
      ∧ cfgAdmitted { Config.exampleCfg with statusPattern := { Config.exampleStatus with fast := .off } } = false
      ∧ cfgAdmitted { Config.exampleCfg with statusPattern := { Config.exampleStatus with fastWait := .off } } = false
      ∧ cfgAdmitted Config.exampleCfg = true := by decide

/-- R8: P_ERRORBAND_FAST is 1 and P_MAX_ERROR is 393 in a record that does not give them, and what it says in one that
does. -/
theorem test_cfg_tunable_values :
    Config.exampleCfg.fastErrorBand = 1 ∧ Config.exampleCfg.fastMaxError = 393
      ∧ { Config.exampleCfg with fastErrorBand := 4, fastMaxError := 400 }.fastErrorBand = 4 := by decide

/-! ### Decoding: words written out from R71 -/

theorem test_decode_ovf : decode 0b00010000000000000000000000000000#32 = .instr .ovf := by decide

theorem test_decode_wrap : decode 0b00100000000000000000000000000000#32 = .instr .wrap := by decide

/-- EDGE 50048 is 0x3000_C380 (95_test_vectors.md section 0). -/
theorem test_decode_edge : decode 0b00110000000000001100001110000000#32 = .instr (.edge 50048#16) := by decide

theorem test_decode_pass_cold : decode 0b01000000000000000000000000000001#32 = .instr (.pass true false) := by decide

theorem test_decode_pass_lost : decode 0b01000000000000000000000000000010#32 = .instr (.pass false true) := by decide

/-- RDREG 18 is 0x5000_0012. -/
theorem test_decode_rdreg : decode 0b01010000000000000000000000010010#32 = .instr (.rdreg 18#5) := by decide

/-- The words of CE1, CE2, CE8 (cause 1). -/
theorem test_decode_illegal :
    decode 0x00000000#32 = .rejected .illegalOp ∧ decode 0x60000000#32 = .rejected .illegalOp
      ∧ decode 0xF0000000#32 = .rejected .illegalOp := by decide

/-- The words of CE3, CE5, CE6, CE7, CE9 (cause 2). -/
theorem test_decode_reserved :
    decode 0x5001001F#32 = .rejected .reservedNonzero ∧ decode 0x10000001#32 = .rejected .reservedNonzero
      ∧ decode 0x40000004#32 = .rejected .reservedNonzero ∧ decode 0x30010005#32 = .rejected .reservedNonzero
      ∧ decode 0x20008000#32 = .rejected .reservedNonzero := by decide

/-- EDGE 500, 0x3000_01F4, in little-endian bytes (R52). -/
theorem test_decode_bytes : decodeBytes [0xF4, 0x01, 0x00, 0x30] = some (.instr (.edge 500#16), []) := by decide

/-- DUTY = 51833 reads as 0x0000_0000_0000_CA79 (R220), serialized little-endian (R52). -/
theorem test_read_bytes :
    bytesOfReadData 0x000000000000CA79#64 = [0x79, 0xCA, 0, 0, 0, 0, 0, 0]
      ∧ readDataOfBytes [0x79, 0xCA, 0, 0, 0, 0, 0, 0, 1] = some (0xCA79#64, [1]) := by decide

theorem test_decodeTableWord : decodeTableWord 32 0x30000064 = some (.edge 100#16) := by decide

/-- SECOND 1,7 of R83, as words. -/
theorem test_assemble_second :
    assembleWords (.second 1 7) = some [0x10000000#32, 0x20000000#32, 0x30000007#32, 0x40000000#32] := by decide

/-! ### One step on small states -/

/-- The state a transaction leaves, for reading one or two fields of it. -/
def after (i : Instr) (s : State) : State :=
  match exec i s with
  | .next t => t
  | .fault _ => s
  | .refused _ => s

/-- A state in a mode, with a sample in the latch. -/
def sampled (m : Mode) (v : BitVec 64) : State := { State.reset with mode := m, sample := v, ppsMiss := 1 }

/-- A FAST state whose next sample closes the window, as the vectors of section 2.4 have it. -/
def fastClosing (sum : BitVec 64) (lock : BitVec 8) (v : BitVec 64) : State :=
  { sampled .fast v with winCnt := 7, winSum := sum, lockCnt := lock, duty := 20000 }

/-- A SLOW state whose next sample closes the window, as the vectors of section 2.5 have it. -/
def slowClosing (sum : BitVec 64) (hist : BitVec 32) (v : BitVec 64) : State :=
  { sampled .slow v with winCnt := 59, winSum := sum, iHist := hist, duty := 30000 }

/-- T3. -/
theorem test_ovf_latches : (after .ovf State.reset).ovfPend = true ∧ (after .ovf State.reset).count = 0 := by decide

/-- T18: COUNT passes 2^63 - 1. -/
theorem test_wrap_at_the_top :
    (after .wrap { State.reset with count := 0x7FFFFFFFFFFF0000#64, ovfPend := true }).count = 0x8000000000000000#64 := by
  decide

/-- T7. -/
theorem test_wrap_without_overflow : after .wrap State.reset = State.reset := by decide

/-- T12. -/
theorem test_edge_smallest_credit :
    (after (.edge 65535#16) State.reset).countAdd = 1 ∧ (after (.edge 65535#16) State.reset).sample = 65535 := by decide

/-- T16. -/
theorem test_edge_saturates :
    (after (.edge 5#16) { State.reset with ppsMiss := 0xFFFFFFFF#32 }).ppsMiss = 0xFFFFFFFF#32 := by decide

/-- FA7: the error is clamped to -393 and DUTY to 1. -/
theorem test_pass_fast_close :
    (after (.pass false false) (fastClosing 70000000 4 10100000)).duty = 1
      ∧ (after (.pass false false) (fastClosing 70000000 4 10100000)).diagP = BitVec.ofInt 64 (-31833) := by decide

/-- SL3: the sign flip resets IHIST. SL1: its window line in the order of R205: error, P, I, Ihist, adjust, duty. -/
theorem test_pass_slow_close :
    (after (.pass false false) (slowClosing 590000000 (BitVec.ofInt 32 (-3)) 9999995)).iHist = 0
      ∧ windowLine (after (.pass false false) (slowClosing 590000005 0 10000000)) = [-5, -10, 0, -1, -10, 29990] := by
  decide

/-- RD5. -/
theorem test_rdreg_sign_extends :
    (after (.rdreg 7#5) { State.reset with winCnt := BitVec.ofInt 32 (-5) }).trace = [.rdata 0xFFFFFFFFFFFFFFFB#64] := by
  decide

/-- RD9. -/
theorem test_rdreg_unassigned :
    (after (.rdreg 19#5) State.reset).errCause = 3 ∧ (after (.rdreg 19#5) State.reset).trace = [] := by decide

/-- FM12: MODE 12 is refused at launch. -/
theorem test_launch_mode_twelve :
    (match launchMode 12#4 State.reset with | .refused .modeIllegal => true | _ => false) = true := by decide

/-! ### Witnesses: states and operands that meet the hypotheses of each statement -/

/-- A fault-free state has no fault: the four facts, decided. -/
theorem noFault_sampled (m : Mode) : (sampled m 10000000).NoFault false false :=
  ⟨by simp [State.ColdFault], by simp [State.LostFault], by simp [State.PpsFault, sampled]; decide,
    by simp [State.ClockFault, sampled]⟩

theorem witness_ResetLoadsTheResetValues :
    cfgAdmitted { Config.exampleCfg with dutyInit := 1 } = true
      ∧ cfgAdmitted { Config.exampleCfg with dutyInit := 65535 } = true := by decide

theorem witness_ResetStatesAreLegal : cfgAdmitted Config.exampleCfg = true := by decide

/-- A reset state under a configuration. -/
def underCfg (c : Cfg) : State := { State.reset with cfg := c }

theorem witness_LaunchRefusesConfigurationsR9Excludes :
    (underCfg { Config.exampleCfg with fastGain := -1 }).cfg.fastGain < 0
      ∧ (underCfg { Config.exampleCfg with fastErrorBand := -1 }).cfg.fastErrorBand < 0
      ∧ (underCfg { Config.exampleCfg with fastMaxError := -1 }).cfg.fastMaxError < 0
      ∧ (underCfg { Config.exampleCfg with slowGainP := -1 }).cfg.slowGainP < 0
      ∧ (underCfg { Config.exampleCfg with slowErrorBandP := -1 }).cfg.slowErrorBandP < 0
      ∧ (underCfg { Config.exampleCfg with slowGainI := -1 }).cfg.slowGainI < 0
      ∧ (underCfg { Config.exampleCfg with slowErrorBandI := -1 }).cfg.slowErrorBandI < 0
      ∧ (underCfg { Config.exampleCfg with dutyInit := 0 }).cfg.dutyInit < 1
      ∧ 65535 < (underCfg { Config.exampleCfg with dutyInit := 65536 }).cfg.dutyInit := by decide

theorem witness_LaunchTakesExactlyLegalRegisters :
    cfgAdmitted State.reset.cfg = true ∧ launch State.reset = .next State.reset
      ∧ launch { State.reset with lockCnt := 6 } = .refused .lockCntIllegal ∧ 12 ≤ (12#4).toNat :=
  ⟨by decide, rfl, rfl, by decide⟩

theorem witness_DecodeInvertsEncode : decode 0x3000FFFF#32 = .instr (.edge 65535#16) := by decide

theorem witness_OperandsAreTheWordsFields :
    decode 0x3000FFFF#32 = .instr (.edge 65535#16) ∧ decode 0x40000003#32 = .instr (.pass true true)
      ∧ decode 0x5000001F#32 = .instr (.rdreg 31#5) := by decide

theorem witness_PseudoInstructionsExpand :
    (65535 : Nat) ≤ 65535 ∧ 65535 < 65536 ∧ (1 < 2 ∨ 1 < 0) ∧ (31 : Nat) ≤ 31 ∧ 31 < 32 := by decide

/-- A state with words waiting. -/
def waiting (ws : List Word) : State := { State.reset with words := ws }

theorem witness_StepRunsTheDecodedTransaction :
    (waiting [0x10000000#32]).words = [0x10000000#32] ∧ decode 0x10000000#32 = .instr .ovf ∧ State.reset.words = [] := by
  decide

/-- OP at its boundary values 0x0, 0x6 and 0xF. -/
theorem witness_RejectedWordsAreOnlyRecorded_illegal :
    (waiting [0#32]).words = [0#32] ∧ IllegalOpWord 0#32 ∧ IllegalOpWord 0x60000000#32 ∧ IllegalOpWord 0xFFFFFFFF#32 :=
  ⟨rfl, by decide, by decide, by decide⟩

/-- The least or the greatest reserved bit of each opcode. -/
theorem witness_RejectedWordsAreOnlyRecorded_reserved :
    ReservedSetWord 0x10000001#32 ∧ ReservedSetWord 0x28000000#32 ∧ ReservedSetWord 0x30010000#32
      ∧ ReservedSetWord 0x40000004#32 ∧ ReservedSetWord 0x50000020#32 :=
  ⟨by decide, by decide, by decide, by decide, by decide⟩

theorem witness_CausePriorityWithinOneWord_illegal :
    ∃ t, step (waiting [0#32]) = .next t ∧ (waiting [0#32]).cmdErr = false ∧ IllegalOpWord 0#32 :=
  ⟨_, rfl, by decide, by decide⟩

/-- R243's own word. -/
theorem witness_CausePriorityWithinOneWord_reserved :
    ∃ t, step (waiting [0x5001001F#32]) = .next t ∧ ¬ IllegalOpWord 0x5001001F#32 ∧ ReservedSetWord 0x5001001F#32 :=
  ⟨_, rfl, by decide, by decide⟩

theorem witness_CausePriorityWithinOneWord_register :
    ∃ t, step (waiting [0x50000013#32]) = .next t ∧ ¬ IllegalOpWord 0x50000013#32 ∧ ¬ ReservedSetWord 0x50000013#32
      ∧ BadRegisterWord 0x50000013#32 :=
  ⟨_, rfl, by decide, by decide, by decide⟩

theorem witness_CausePriorityWithinOneWord_none :
    ∃ t, step (waiting [0x50000012#32]) = .next t ∧ ¬ IllegalOpWord 0x50000012#32 ∧ ¬ ReservedSetWord 0x50000012#32
      ∧ ¬ BadRegisterWord 0x50000012#32 :=
  ⟨_, rfl, by decide, by decide, by decide⟩

theorem witness_CommandErrorRecordIsSticky :
    ∃ t, Sys2Proof.core.run 2 { waiting [0x60000000#32, 0x10000000#32] with cmdErr := true, errCause := 2 } = .next t
      ∧ t.errCause = 2 :=
  ⟨_, rfl, by decide⟩

theorem witness_WrapServicesAPendingOverflow :
    { State.reset with ovfPend := true }.ovfPend = true ∧ State.reset.ovfPend = false := by decide

theorem witness_WrapAddsTheCreditExactly :
    State.reset.countAdd.toNat ≤ 65536
      ∧ (0x7FFFFFFFFFFEFFFF#64).toInt + State.reset.countAdd.toNat < 2 ^ 63
      ∧ 2 ^ 63 ≤ (0x7FFFFFFFFFFF0000#64).toInt + State.reset.countAdd.toNat := by decide

theorem witness_OnlyPassWritesPrivateRegisters :
    (∀ cold lost, Instr.wrap ≠ .pass cold lost) ∧ ∃ t, exec .wrap State.reset = .next t :=
  ⟨by decide, _, rfl⟩

/-- One overflow, with a pass and a read between. -/
theorem witness_SamplesAreExact :
    ((1 : Nat) * 65536 + (0#16).toNat - (65535#16).toNat : Int) < 2 ^ 63
      ∧ [Instr.ovf, .pass false false, .wrap, .rdreg 0#5].filter isTickEvent = tickWrapPairs 1 := by decide

theorem witness_CoalescedOverflowLosesOneWrap :
    State.reset.ovfPend = false ∧ State.reset.countAdd.toNat ≤ 65536 ∧ State.reset.count.toInt < 2 ^ 62 := by decide

theorem witness_OverflowPendingAtAnEdgeIsLost :
    State.reset.ovfPend = false ∧ State.reset.countAdd.toNat ≤ 65536 ∧ State.reset.count.toInt < 2 ^ 62
      ∧ 1 ≤ 1 ∧ 1 < 2 ^ 40 := by decide

/-- With no overflow, and with one latched and not serviced. -/
theorem witness_NoOverflowBetweenEdges :
    (∀ i ∈ [Instr.wrap, .pass false false], i ≠ .ovf ∧ ∀ c, i ≠ .edge c)
      ∧ ∀ i ∈ [Instr.ovf, .pass false false], i ≠ .wrap ∧ ∀ c, i ≠ .edge c := by
  simp

theorem witness_PassSnapshotConsumesTheSample : (sampled .slow 1).sample ≠ 0 ∧ State.reset.sample = 0 := by decide

theorem witness_TransactionsKeepConfigurationAndRecord :
    (∃ t, step (waiting [0#32]) = .next t) ∧ (∃ t, exec (.pass true true) State.reset = .next t)
      ∧ ∀ reg, Instr.pass true true ≠ .rdreg reg :=
  ⟨⟨_, rfl⟩, ⟨_, rfl⟩, by simp⟩

theorem witness_EveryReadySampleIsReported :
    (∃ t, exec (.pass false false) (sampled .good 1) = .next t) ∧ (sampled .good 1).sample ≠ 0
      ∧ State.reset.sample = 0 :=
  ⟨⟨_, rfl⟩, by decide, by decide⟩

theorem witness_DiagFlagsTellTheReports :
    (∃ t, exec (.pass false false) (fastClosing 69999000 0 10000000) = .next t ∧ t.diagFlags = 7)
      ∧ (∀ cold lost, Instr.ovf ≠ .pass cold lost) ∧ (∃ t, exec .ovf State.reset = .next t)
      ∧ decode 0x40000004#32 = .rejected .reservedNonzero ∧ ∃ t, step (waiting [0x40000004#32]) = .next t :=
  ⟨⟨_, rfl, by decide⟩, by decide, ⟨_, rfl⟩, by decide, _, rfl⟩

theorem witness_UnusedSampleIsDiscarded :
    isPpsGated Mode.good = false ∧ (sampled .slow 1).ColdFault true ∧ (sampled .slow 1).LostFault true
      ∧ { sampled .slow 1 with count := 15000001 }.PpsFault ∧ (1#64 ≠ 0 ∧ 2#64 ≠ 0)
      ∧ (sampled .fastWait 1).mode ∈ [Mode.fastInit, .fastWait, .slowInit] ∧ (BitVec.ofInt 32 (-1)).toInt < 0
      ∧ ∃ t, exec (.pass false false) ((sampled .good 1).deliver 2) = .next t :=
  ⟨by decide, by decide, by decide, by decide, by decide, by decide, by decide, _, rfl⟩

theorem witness_CompiledOutSignalsAreIgnored :
    (underCfg { Config.exampleCfg with haveOscColdSignal := false }).cfg.haveOscColdSignal = false
      ∧ (underCfg { Config.exampleCfg with haveGpsLockSignal := false }).cfg.haveGpsLockSignal = false := by decide

/-- One state for each clause, the thresholds at their boundary: COUNT 15,000,001 and PPSMISS 15. -/
theorem witness_FaultEntryByPriority :
    (sampled .slow 1).mode ∉ [Mode.oscCold, .noOscClock, .noGpsPps, .noGpsLock] ∧ (sampled .slow 1).ColdFault true
      ∧ ¬ (sampled .slow 1).ColdFault false ∧ (sampled .slow 1).LostFault true ∧ ¬ (sampled .slow 1).LostFault false
      ∧ { sampled .slow 1 with count := 15000001 }.PpsFault ∧ ¬ { State.reset with ppsMiss := 15 }.PpsFault
      ∧ { State.reset with ppsMiss := 15 }.ClockFault := by decide

theorem witness_FaultModesRecoverOnTheirOwnPredicate :
    (sampled .oscCold 1).ColdFault true ∧ ¬ (sampled .oscCold 1).ColdFault false
      ∧ (sampled .noGpsLock 1).LostFault true ∧ ¬ (sampled .noGpsLock 1).LostFault false
      ∧ { sampled .noGpsPps 1 with count := 15000001 }.PpsFault ∧ ¬ { sampled .noGpsPps 1 with count := 15000000 }.PpsFault
      ∧ { State.reset with mode := .noOscClock, ppsMiss := 15 }.ClockFault
      ∧ ¬ { State.reset with mode := .noOscClock, ppsMiss := 14 }.ClockFault := by decide

theorem witness_UngatedModesAdvance :
    (sampled .start 10000000).NoFault false false ∧ (sampled .checkErrors 10000000).NoFault false false
      ∧ (sampled .good 10000000).NoFault false false :=
  ⟨noFault_sampled _, noFault_sampled _, noFault_sampled _⟩

theorem witness_FaultCheckIsIdempotent :
    (∃ t u, exec (.pass true false) (sampled .fast 1) = .next t ∧ isFaultMode t.mode = true
        ∧ exec (.pass true false) t = .next u)
      ∧ (sampled .good 10000000).NoFault false false
      ∧ ∃ t u, exec (.pass false false) (sampled .good 10000000) = .next t ∧ exec (.pass false false) t = .next u :=
  ⟨⟨_, _, rfl, by decide, rfl⟩, noFault_sampled _, _, _, rfl, rfl⟩

theorem witness_NoOscClockNeedsZeroSamples :
    ∃ t, exec (.pass false false) { State.reset with ppsMiss := 15 } = .next t ∧ State.reset.mode ≠ .noOscClock
      ∧ t.mode = .noOscClock :=
  ⟨_, rfl, by decide, by decide⟩

theorem witness_ModeMovesOnlyToSuccessors : ∃ t, exec (.pass false false) State.reset = .next t := ⟨_, rfl⟩

theorem witness_GatedModesWaitForASample :
    ∀ m ∈ [Mode.fastInit, .fastWait, .fast, .slowInit, .slow],
      { State.reset with mode := m, ppsMiss := 14, count := 15000000 }.NoFault false false
        ∧ { State.reset with mode := m, ppsMiss := 14, count := 15000000 }.sample = 0 :=
  fun _ _ => ⟨⟨by simp, by simp, by simp, by simp⟩, rfl⟩

theorem witness_FastInitStartsTheSettle :
    (sampled .fastInit 10000000).mode = .fastInit ∧ (sampled .fastInit 10000000).NoFault false false
      ∧ (sampled .fastInit 10000000).sample ≠ 0 :=
  ⟨rfl, noFault_sampled _, by decide⟩

theorem witness_FastWaitCountsTheSettle :
    ({ sampled .fastWait 1 with winCnt := BitVec.ofInt 32 (-2) }.NoFault false false
        ∧ { sampled .fastWait 1 with winCnt := BitVec.ofInt 32 (-2) }.winCnt.toInt + 1 < 0)
      ∧ { sampled .fastWait 1 with winCnt := BitVec.ofInt 32 (-1) }.NoFault false false
      ∧ 0 ≤ { sampled .fastWait 1 with winCnt := BitVec.ofInt 32 (-1) }.winCnt.toInt + 1
      ∧ (sampled .fastWait 1).mode = .fastWait ∧ (sampled .fastWait 1).sample ≠ 0 :=
  ⟨⟨⟨by decide, by decide, by decide, by decide⟩, by decide⟩, ⟨by decide, by decide, by decide, by decide⟩, by decide, rfl,
    by decide⟩

theorem witness_SlowInitClearsTheTracking :
    (sampled .slowInit 10000000).mode = .slowInit ∧ (sampled .slowInit 10000000).NoFault false false
      ∧ (sampled .slowInit 10000000).sample ≠ 0 :=
  ⟨rfl, noFault_sampled _, by decide⟩

theorem witness_SettleSamplesAreDiscarded :
    { sampled .fast 1 with winCnt := BitVec.ofInt 32 (-1) }.NoFault false false
      ∧ { sampled .slow 1 with winCnt := BitVec.ofInt 32 (-1) }.NoFault false false
      ∧ { sampled .slow 1 with winCnt := BitVec.ofInt 32 (-1) }.winCnt.toInt < 0
      ∧ (sampled .fast 1).mode = .fast ∧ (sampled .slow 1).mode = .slow ∧ (sampled .slow 1).sample ≠ 0 :=
  ⟨⟨by decide, by decide, by decide, by decide⟩, ⟨by decide, by decide, by decide, by decide⟩, by decide, rfl, rfl,
    by decide⟩

theorem witness_OpenWindowsAccumulate :
    { sampled .fast 1 with winCnt := 6 }.NoFault false false ∧ (sampled .fast 1).mode = .fast
      ∧ (sampled .fast 1).sample ≠ 0 ∧ (0 : Int) ≤ (6#32).toInt ∧ (6#32).toInt + 1 < 8
      ∧ { sampled .slow 1 with winCnt := 58 }.NoFault false false ∧ (sampled .slow 1).mode = .slow
      ∧ (58#32).toInt + 1 < 60 :=
  ⟨⟨by decide, by decide, by decide, by decide⟩, rfl, by decide, by decide, by decide,
    ⟨by decide, by decide, by decide, by decide⟩, rfl, by decide⟩

/-- FA6's start: the error is -1. -/
theorem witness_FifthWindowInBandLocks :
    (fastClosing 70000000 4 10000001).NoFault false false ∧ 7 ≤ (fastClosing 70000000 4 10000001).winCnt.toInt
      ∧ |(fastClosing 70000000 4 10000001).fastError| ≤ (fastClosing 70000000 4 10000001).cfg.fastErrorBand
      ∧ 5 ≤ (fastClosing 70000000 4 10000001).lockCnt.toNat + 1
      ∧ (fastClosing 70000000 4 10000001).lockCnt.toNat + 1 < 256
      ∧ (fastClosing 70000000 4 10000001).mode = .fast ∧ (fastClosing 70000000 4 10000001).sample ≠ 0 :=
  ⟨⟨by decide, by decide, by decide, by decide⟩, by decide, by decide, by decide, by decide, rfl, by decide⟩

/-- FA4's start (in band, lock count 1, adjustment -81) and FA3's (in band, lock count 3, adjustment 0). -/
theorem witness_FastWindowCloseAdjusts :
    (fastClosing 70000000 0 10000001).NoFault false false ∧ (fastClosing 70000000 0 10000001).fastError = -1
      ∧ (fastClosing 70000000 0 10000001).mode = .fast ∧ (fastClosing 70000000 0 10000001).sample ≠ 0
      ∧ (fastClosing 70000000 2 10000000).NoFault false false ∧ (fastClosing 70000000 2 10000000).fastError = 0
      ∧ 7 ≤ (fastClosing 70000000 2 10000000).winCnt.toInt ∧ cfgAdmitted (fastClosing 70000000 2 10000000).cfg = true :=
  ⟨⟨by decide, by decide, by decide, by decide⟩, by decide, rfl, by decide,
    ⟨by decide, by decide, by decide, by decide⟩, by decide, by decide, by decide⟩

/-- Sums one outside the band on either side: 79,999,998 and 80,000,002. -/
theorem witness_FastErrorAndAdjustmentAgreeInSign :
    (fastClosing 70000000 0 9999998).NoFault false false ∧ (fastClosing 70000000 0 10000002).NoFault false false
      ∧ (fastClosing 70000000 0 9999998).cfg.fastErrorBand < |(fastClosing 70000000 0 9999998).fastError|
      ∧ (fastClosing 70000000 0 9999998).nextWinSum.toInt < 80000000
      ∧ (fastClosing 70000000 0 10000002).cfg.fastErrorBand < |(fastClosing 70000000 0 10000002).fastError|
      ∧ 80000000 < (fastClosing 70000000 0 10000002).nextWinSum.toInt
      ∧ 8 ≤ (fastClosing 70000000 0 9999998).cfg.fastGain ∧ 1 ≤ (fastClosing 70000000 0 9999998).cfg.fastMaxError
      ∧ ∃ t, exec (.pass false false) (fastClosing 70000000 0 9999998) = .next t :=
  ⟨⟨by decide, by decide, by decide, by decide⟩, ⟨by decide, by decide, by decide, by decide⟩, by decide, by decide,
    by decide, by decide, by decide, by decide, _, rfl⟩

theorem witness_SmallFastGainNeverMeetsTheClamp :
    (fastClosing 70000000 0 9999998).cfg.fastGain / 8 ≤ 81 ∧ (fastClosing 70000000 0 9999998).cfg.fastMaxError = 393
      ∧ (fastClosing 70000000 0 9999998).NoFault false false
      ∧ ∃ t, exec (.pass false false) (fastClosing 70000000 0 9999998) = .next t :=
  ⟨by decide, by decide, ⟨by decide, by decide, by decide, by decide⟩, _, rfl⟩

/-- SL6's start: the error is -129. -/
theorem witness_GrossSlowErrorDemotes :
    (slowClosing 590000000 6 10000129).NoFault false false ∧ 59 ≤ (slowClosing 590000000 6 10000129).winCnt.toInt
      ∧ 128 < |(slowClosing 590000000 6 10000129).slowError| ∧ (slowClosing 590000000 6 10000129).mode = .slow
      ∧ (slowClosing 590000000 6 10000129).sample ≠ 0 :=
  ⟨⟨by decide, by decide, by decide, by decide⟩, by decide, by decide, rfl, by decide⟩

/-- SL5's start (error 128, adjusted) and SL2's (error 0, no adjustment). -/
theorem witness_SlowWindowCloseTracks :
    (slowClosing 590000000 0 9999872).NoFault false false ∧ (slowClosing 590000000 0 9999872).slowError = 128
      ∧ 59 ≤ (slowClosing 590000000 0 9999872).winCnt.toInt ∧ (slowClosing 590000000 0 9999872).mode = .slow
      ∧ (slowClosing 590000000 0 9999872).sample ≠ 0
      ∧ (slowClosing 590000000 0 10000000).NoFault false false ∧ (slowClosing 590000000 0 10000000).slowError = 0 :=
  ⟨⟨by decide, by decide, by decide, by decide⟩, by decide, by decide, rfl, by decide,
    ⟨by decide, by decide, by decide, by decide⟩, by decide⟩

/-- The state a run of samples leaves, for reading one or two fields of it. -/
def afterEach (vs : List (BitVec 64)) (s : State) : State :=
  match passEach vs s with
  | .next t => t
  | .fault _ => s
  | .refused _ => s

/-- One window of error `600000000 - 590000000 - v` closes, and 59 nominal samples fill the next. -/
def oneWindow (v : BitVec 64) : List (BitVec 64) := v :: List.replicate 59 10000000

theorem witness_IHistCountsTheRun_start :
    (slowClosing 590000000 0 1).mode = .slow ∧ (slowClosing 590000000 0 1).iHist = 0
      ∧ (slowClosing 590000000 0 1).count.toInt ≤ 15000000
      ∧ (∀ v ∈ oneWindow 9999999, v ≠ 0) ∧ ∀ v ∈ oneWindow 10000001, v ≠ 0 :=
  ⟨rfl, rfl, by decide, by simp [oneWindow], by simp [oneWindow]⟩

/-- A window of error 1, then one of error -128 about to close. -/
theorem witness_IHistCountsTheRun_positive :
    slowErrors (oneWindow 9999999) (slowClosing 590000000 0 1) = [1]
      ∧ 59 ≤ (afterEach (oneWindow 9999999) (slowClosing 590000000 0 1)).winCnt.toInt
      ∧ ((afterEach (oneWindow 9999999) (slowClosing 590000000 0 1)).deliver 10000128).slowError = -128 := by
  decide +kernel

/-- A window of error -1, then one of error 128 about to close. -/
theorem witness_IHistCountsTheRun_negative :
    slowErrors (oneWindow 10000001) (slowClosing 590000000 0 1) = [-1]
      ∧ 59 ≤ (afterEach (oneWindow 10000001) (slowClosing 590000000 0 1)).winCnt.toInt
      ∧ ((afterEach (oneWindow 10000001) (slowClosing 590000000 0 1)).deliver 9999872).slowError = 128 := by
  decide +kernel

theorem witness_WrapRecipeDiffersOnlyAtZero :
    1 ≤ { State.reset with duty := 5 }.duty.toNat ∧ |(-5 : Int)| ≤ 32000
      ∧ ({ State.reset with duty := 5 }.duty.toNat : Int) + (-5) = 0
      ∧ ({ State.reset with duty := 5 }.duty.toNat : Int) + (-4) ≠ 0 := by decide

theorem witness_DutyChangesOnlyAtAWindowClose :
    ∃ t, exec (.pass false false) (slowClosing 590000005 0 10000000) = .next t
      ∧ t.duty ≠ (slowClosing 590000005 0 10000000).duty :=
  ⟨_, rfl, by decide⟩

theorem witness_StatusShowsAcquiring :
    cfgAdmitted (sampled .fastWait 1).cfg = true ∧ (sampled .fastWait 1).mode = .fastWait
      ∧ (sampled .fast 1).mode = .fast := by decide

/-- Every register at a boundary of its range. -/
def extremes : State :=
  { State.reset with
    count := BitVec.ofInt 64 (-2 ^ 63), countAdd := 65536, sample := BitVec.ofInt 64 (2 ^ 63 - 1), ovfPend := true
    cmdErr := true, ppsMiss := 0xFFFFFFFF, mode := .slow, winSum := BitVec.ofInt 64 (-1), winCnt := BitVec.ofInt 32 (-5)
    iHist := BitVec.ofInt 32 (-2 ^ 31), lockCnt := 5, minNoAdj := 0xFFFFFFFF, duty := 65535, errCause := 3
    diagSecErr := BitVec.ofInt 64 (-7), diagWErr := 1, diagP := BitVec.ofInt 64 (-2), diagI := 3
    diagAdj := BitVec.ofInt 64 (-32000), diagFlags := 7 }

/-- What RDREG of each assigned number drives in that state, worked out by R221. -/
theorem witness_RdregReadsEachRegister :
    (List.range 19).map (fun n => (after (.rdreg (BitVec.ofNat 5 n)) extremes).trace) =
      ([-2 ^ 63, 65536, 2 ^ 63 - 1, 7, 4294967295, 11, -1, -5, -2 ^ 31, 5, 4294967295, 65535, 3, -7, 1, -2, 3, -32000, 7]
        : List Int).map (fun v => [.rdata (BitVec.ofInt 64 v)]) := by
  rfl

theorem witness_RdregOfAnUnassignedNumber : 19 ≤ (19#5).toNat ∧ 19 ≤ (31#5).toNat := by decide

theorem legal_reset : State.reset.Legal :=
  ⟨by decide, by decide, by decide, by decide, by decide, by decide, by decide, by decide⟩

theorem witness_StepKeepsLegality :
    ∃ s t : State, s.Legal ∧ s.words ≠ [] ∧ step s = .next t :=
  ⟨waiting [0x40000000#32], _,
    ⟨by decide, by decide, by decide, by decide, by decide, by decide, by decide, by decide⟩, by decide, rfl⟩

theorem witness_StepKeepsWindowPhase :
    ∃ s t : State, s.WindowPhase ∧ s.mode = .fast ∧ s.winCnt.toInt = 7 ∧ step s = .next t :=
  ⟨{ fastClosing 70000000 4 10000001 with words := [0x40000000#32] }, _,
    ⟨by decide, by decide, by decide, by decide⟩, rfl, by decide, rfl⟩

theorem witness_FiveResetValuesDoNotMatter :
    ∃ t u, Sys2Proof.core.run 2 { State.resetWith Config.exampleCfg with words := [0x30000001#32, 0x40000000#32] } = .next t
      ∧ Sys2Proof.core.run 2 { State.resetWith Config.exampleCfg with
        words := [0x30000001#32, 0x40000000#32]
        winSum := 1
        winCnt := 2
        iHist := 3
        minNoAdj := 4
        lockCnt := 5 } = .next u :=
  ⟨_, _, rfl, rfl⟩

end Sys2Proof.Tests
end

section
/-! Launch and configuration: the bounds an admitted configuration meets (R9, R203), and the refusal of every other. -/

namespace Sys2Proof.Machine

theorem cfgAdmitted_iff (c : Cfg) :
    cfgAdmitted c = true ↔
      0 ≤ c.fastGain ∧ 0 ≤ c.fastErrorBand ∧ 0 ≤ c.fastMaxError ∧ 0 ≤ c.slowGainP ∧ 0 ≤ c.slowErrorBandP
        ∧ 0 ≤ c.slowGainI ∧ 0 ≤ c.slowErrorBandI ∧ 1 ≤ c.dutyInit ∧ c.dutyInit ≤ 65535
        ∧ c.statusPattern.fastWait = .acquiring ∧ c.statusPattern.fast = .acquiring := by
  simp only [cfgAdmitted, Bool.and_eq_true, decide_eq_true_eq, and_assoc]

theorem launch_of_not_cfgAdmitted {s : State} (h : ¬ cfgAdmitted s.cfg = true) :
    launch s = .refused .cfgNotAdmitted :=
  if_pos (Bool.eq_false_of_not_eq_true h)

/-- Settles O3: each field R9 excludes contradicts the bound an admitted configuration puts on it. -/
theorem launchRefusesConfigurationsR9Excludes : Obligations.LaunchRefusesConfigurationsR9Excludes := by
  intro s excluded
  refine launch_of_not_cfgAdmitted fun admitted => ?_
  obtain ⟨fastGain, fastErrorBand, fastMaxError, slowGainP, slowErrorBandP, slowGainI, slowErrorBandI, dutyLow,
    dutyHigh, -, -⟩ := (cfgAdmitted_iff s.cfg).mp admitted
  omega

end Sys2Proof.Machine
end

section
/-! Serialization (R52): adjacent bytes of a value join into one field of it, so what is serialized is read back whole. -/

namespace Sys2Proof

/-- R52's arithmetic form of byte k. -/
theorem extract_byte_eq_ofNat_div {w : Nat} (v : BitVec w) (k : Nat) :
    v.extractLsb' (8 * k) 8 = BitVec.ofNat 8 (v.toNat / 2 ^ (8 * k)) := by
  rw [← Nat.shiftRight_eq_div_pow]
  rfl

theorem getElem?_bytesOfBits_eq_ofNat_div {w count k : Nat} (v : BitVec w) (h : k < count) :
    (bytesOfBits count v)[k]? = some (BitVec.ofNat 8 (v.toNat / 2 ^ (8 * k))) := by
  rw [getElem?_bytesOfBits h, extract_byte_eq_ofNat_div]

theorem extract_append_byte {w : Nat} (v : BitVec w) (lo len : Nat) :
    v.extractLsb' (lo + 8) len ++ v.extractLsb' lo 8 = v.extractLsb' lo (len + 8) :=
  BitVec.extractLsb'_append_extractLsb'_eq_extractLsb' rfl

theorem wordOfBytes_extract {w : Nat} (v : BitVec w) (lo : Nat) :
    wordOfBytes (v.extractLsb' lo 8) (v.extractLsb' (lo + 8) 8) (v.extractLsb' (lo + 16) 8) (v.extractLsb' (lo + 24) 8) =
      v.extractLsb' lo 32 := by
  rw [wordOfBytes, extract_append_byte v (lo + 16) 8, extract_append_byte v (lo + 8) 16, extract_append_byte v lo 24]

theorem decodeBytes_bytesOfWord_append (w : Word) (rest : List Byte) :
    decodeBytes (bytesOfWord w ++ rest) = some (decode w, rest) := by
  have joined : wordOfBytes (w.extractLsb' 0 8) (w.extractLsb' 8 8) (w.extractLsb' 16 8) (w.extractLsb' 24 8) = w :=
    (wordOfBytes_extract w 0).trans BitVec.extractLsb'_eq_self
  calc decodeBytes (bytesOfWord w ++ rest)
    _ = some (decode (wordOfBytes (w.extractLsb' 0 8) (w.extractLsb' 8 8) (w.extractLsb' 16 8) (w.extractLsb' 24 8)),
        rest) := rfl
    _ = some (decode w, rest) := by rw [joined]

theorem readDataOfBytes_bytesOfReadData_append (v : ReadData) (rest : List Byte) :
    readDataOfBytes (bytesOfReadData v ++ rest) = some (v, rest) := by
  have joined : v.extractLsb' 32 32 ++ v.extractLsb' 0 32 = v :=
    (BitVec.extractLsb'_append_extractLsb'_eq_extractLsb' rfl).trans BitVec.extractLsb'_eq_self
  calc readDataOfBytes (bytesOfReadData v ++ rest)
    _ = some (wordOfBytes (v.extractLsb' 32 8) (v.extractLsb' (32 + 8) 8) (v.extractLsb' (32 + 16) 8)
          (v.extractLsb' (32 + 24) 8)
        ++ wordOfBytes (v.extractLsb' 0 8) (v.extractLsb' (0 + 8) 8) (v.extractLsb' (0 + 16) 8)
          (v.extractLsb' (0 + 24) 8), rest) := rfl
    _ = some (v, rest) := by rw [wordOfBytes_extract v 32, wordOfBytes_extract v 0, joined]

/-- Settles O10: the bytes are R52's by arithmetic on each, and adjacent bytes join back into the value. -/
theorem serializedWordsAreLittleEndian : Obligations.SerializedWordsAreLittleEndian :=
  ⟨fun w rest => ⟨decodeBytes_bytesOfWord_append w rest, length_bytesOfBits 4 w,
      fun _ hk => getElem?_bytesOfBits_eq_ofNat_div w hk⟩,
    fun v rest => ⟨readDataOfBytes_bytesOfReadData_append v rest, length_bytesOfBits 8 v,
      fun _ hk => getElem?_bytesOfBits_eq_ofNat_div v hk⟩⟩

end Sys2Proof
end

section
/-! Decoding by opcode (R78, R79): what `decode` gives for each OP, the operands of a decoded word, and the step on a
word that decoding rejects. -/

namespace Sys2Proof

open Machine

/-- R78's map: every OP that is not defined, and the five that are, each with its reserved bits and its transaction. -/
theorem decode_cases (w : Word) :
    (IllegalOpWord w ∧ decode w = .rejected .illegalOp)
      ∨ (w.toNat / 2 ^ 28 = 1 ∧ decode w = unlessReserved (w.extractLsb' 0 28) .ovf)
      ∨ (w.toNat / 2 ^ 28 = 2 ∧ decode w = unlessReserved (w.extractLsb' 0 28) .wrap)
      ∨ (w.toNat / 2 ^ 28 = 3 ∧ decode w = unlessReserved (w.extractLsb' 16 12) (.edge (fieldC w)))
      ∨ (w.toNat / 2 ^ 28 = 4 ∧ decode w = unlessReserved (w.extractLsb' 2 26) (.pass (fieldCold w) (fieldLost w)))
      ∨ (w.toNat / 2 ^ 28 = 5 ∧ decode w = unlessReserved (w.extractLsb' 5 23) (.rdreg (fieldReg w))) := by
  have opIs (op : Nat) (h : op < 16) : fieldOp w = BitVec.ofNat 4 op ↔ w.toNat / 2 ^ 28 = op := fieldOp_eq_iff w op h
  by_cases h1 : fieldOp w = 1#4
  · exact .inr (.inl ⟨(opIs 1 (by decide)).mp h1, by simp [decode, h1]⟩)
  by_cases h2 : fieldOp w = 2#4
  · exact .inr (.inr (.inl ⟨(opIs 2 (by decide)).mp h2, by simp [decode, h2]⟩))
  by_cases h3 : fieldOp w = 3#4
  · exact .inr (.inr (.inr (.inl ⟨(opIs 3 (by decide)).mp h3, by simp [decode, h3, fieldRsv]⟩)))
  by_cases h4 : fieldOp w = 4#4
  · exact .inr (.inr (.inr (.inr (.inl ⟨(opIs 4 (by decide)).mp h4, by simp [decode, h4]⟩))))
  by_cases h5 : fieldOp w = 5#4
  · exact .inr (.inr (.inr (.inr (.inr ⟨(opIs 5 (by decide)).mp h5, by simp [decode, h5]⟩))))
  refine .inl ⟨?_, by simp [decode, h1, h2, h3, h4, h5]⟩
  rw [opIs _ (by decide)] at h1 h2 h3 h4 h5
  omega

/-- A decoded transaction's operands are the fields of its word. -/
theorem decode_eq_instr_fields {w : Word} {i : Instr} (h : decode w = .instr i) :
    i = .ovf ∨ i = .wrap ∨ i = .edge (fieldC w) ∨ i = .pass (fieldCold w) (fieldLost w)
      ∨ i = .rdreg (fieldReg w) := by
  obtain ⟨-, e⟩ | ⟨-, e⟩ | ⟨-, e⟩ | ⟨-, e⟩ | ⟨-, e⟩ | ⟨-, e⟩ := decode_cases w <;> rw [e] at h
  · cases h
  · exact .inl (unlessReserved_eq_instr.mp h).2.symm
  · exact .inr (.inl (unlessReserved_eq_instr.mp h).2.symm)
  · exact .inr (.inr (.inl (unlessReserved_eq_instr.mp h).2.symm))
  · exact .inr (.inr (.inr (.inl (unlessReserved_eq_instr.mp h).2.symm)))
  · exact .inr (.inr (.inr (.inr (unlessReserved_eq_instr.mp h).2.symm)))

/-- Settles O7: only one arm of the decoder gives each transaction, and its operands are the word's fields there. -/
theorem operandsAreTheWordsFields : Obligations.OperandsAreTheWordsFields := by
  refine fun w => ⟨fun c h => ?_, fun cold lost h => ?_, fun reg h => ?_⟩
  · have hc : c = fieldC w := by simpa using decode_eq_instr_fields h
    rw [hc, fieldC_toNat]
  · have fields : cold = fieldCold w ∧ lost = fieldLost w := by simpa using decode_eq_instr_fields h
    exact fields
  · have hreg : reg = fieldReg w := by simpa using decode_eq_instr_fields h
    rw [hreg, fieldReg_toNat]

theorem decode_of_illegalOp {w : Word} (h : IllegalOpWord w) : decode w = .rejected .illegalOp := by
  obtain ⟨-, e⟩ | ⟨op, -⟩ | ⟨op, -⟩ | ⟨op, -⟩ | ⟨op, -⟩ | ⟨op, -⟩ := decode_cases w
  · exact e
  all_goals omega

theorem decode_of_reservedSet {w : Word} (h : ReservedSetWord w) : decode w = .rejected .reservedNonzero := by
  obtain ⟨illegal, -⟩ | ⟨op, e⟩ | ⟨op, e⟩ | ⟨op, e⟩ | ⟨op, e⟩ | ⟨op, e⟩ := decode_cases w
  · omega
  all_goals
    rw [e, unlessReserved_eq_reserved, Ne, extract_eq_zero_iff]
    omega

theorem step_of_rejected {s : State} {w : Word} {rest : List Word} {cause : CmdCause} (hw : s.words = w :: rest)
    (hd : decode w = .rejected cause) :
    step s = .next (State.errorRecorded { s with words := rest } (causeCode cause)) := by
  rw [step_of_cons hw, issueWord_of_rejected hd]
  rfl

/-- Settles O13: each class of words is rejected with its cause, and a rejected word is only recorded. -/
theorem rejectedWordsAreOnlyRecorded : Obligations.RejectedWordsAreOnlyRecorded :=
  fun _ _ _ hw => ⟨fun illegal => step_of_rejected hw (decode_of_illegalOp illegal),
    fun reserved => step_of_rejected hw (decode_of_reservedSet reserved)⟩

end Sys2Proof
end

section
/-! The assembler (R82, R83): a line in range stands for its expansion, any other is rejected, and what each kind of
line stands for. -/

namespace Sys2Proof.Machine

theorem assemble_of_wellFormed {line : AsmLine} (h : line.wellFormed = true) :
    assemble line = some (expandLine line) := if_pos h

theorem assemble_eq_none_iff {line : AsmLine} : assemble line = none ↔ line.wellFormed = false := by
  simp [assemble]

/-- The recursion of `tickWrapPairs` is R83's n repetitions. -/
theorem tickWrapPairs_eq_flatten_replicate (n : Nat) :
    tickWrapPairs n = (List.replicate n [Instr.ovf, Instr.wrap]).flatten := by
  induction n with
  | zero => rfl
  | succ n ih => rw [tickWrapPairs, ih, List.replicate_succ]; rfl

theorem assemble_tickWraps (n : Nat) :
    assemble (.tickWraps n) = some (List.replicate n [Instr.ovf, Instr.wrap]).flatten := by
  rw [assemble_of_wellFormed rfl, expandLine, tickWrapPairs_eq_flatten_replicate]

theorem assemble_second {c : Nat} (n : Nat) (h : c ≤ 65535) :
    assemble (.second n c) =
      some ((List.replicate n [Instr.ovf, Instr.wrap]).flatten ++ [.edge (BitVec.ofNat 16 c), .pass false false]) := by
  have inRange : (AsmLine.second n c).wellFormed = true := decide_eq_true h
  rw [assemble_of_wellFormed inRange, expandLine, tickWrapPairs_eq_flatten_replicate]

theorem assemble_second_eq_none {c : Nat} (n : Nat) (h : 65535 < c) : assemble (.second n c) = none :=
  assemble_eq_none_iff.mpr (decide_eq_false (by omega))

theorem assemble_edge {c : Nat} (h : c ≤ 65535) : assemble (.edge c) = some [.edge (BitVec.ofNat 16 c)] :=
  assemble_of_wellFormed (decide_eq_true h)

theorem assemble_edge_eq_none {c : Nat} (h : 65535 < c) : assemble (.edge c) = none :=
  assemble_eq_none_iff.mpr (decide_eq_false (by omega))

theorem assemble_pass (cold lost : Bool) : assemble (.pass cold.toNat lost.toNat) = some [.pass cold lost] := by
  cases cold <;> cases lost <;> rfl

theorem assemble_pass_eq_none {cold lost : Nat} (h : 1 < cold ∨ 1 < lost) : assemble (.pass cold lost) = none := by
  rw [assemble_eq_none_iff, AsmLine.wellFormed, ← Bool.decide_and]
  exact decide_eq_false (by omega)

theorem assemble_rdregNumber {n : Nat} (h : n ≤ 31) :
    assemble (.rdregNumber n) = some [.rdreg (BitVec.ofNat 5 n)] :=
  assemble_of_wellFormed (decide_eq_true h)

theorem assemble_rdregNumber_eq_none {n : Nat} (h : 31 < n) : assemble (.rdregNumber n) = none :=
  assemble_eq_none_iff.mpr (decide_eq_false (by omega))

/-- Settles O11: TICKWRAPS by the repetitions of its pair, every other line by its operands' ranges, and the nineteen
register names one by one. -/
theorem pseudoInstructionsExpand : Obligations.PseudoInstructionsExpand :=
  ⟨⟨assemble_tickWraps, rfl, fun n _ => assemble_second n, fun n _ => assemble_second_eq_none n⟩,
    ⟨rfl, rfl⟩,
    ⟨fun _ => assemble_edge, fun _ => assemble_edge_eq_none⟩,
    ⟨rfl, assemble_pass, fun _ _ => assemble_pass_eq_none⟩,
    fun _ => assemble_rdregNumber, fun _ => assemble_rdregNumber_eq_none, by decide⟩

end Sys2Proof.Machine
end

section
/-! The Tick Accumulator's transactions (R101 to R103): the model computes COUNT's sums in the integers and stores them,
which is addition modulo 2^64 on the register itself. -/

namespace Sys2Proof.Machine

/-- Storing the sum of a signed register and an unsigned one adds the second, zero-extended, modulo 2^w. -/
theorem ofInt_toInt_add_toNat {w v : Nat} (x : BitVec w) (y : BitVec v) :
    BitVec.ofInt w (x.toInt + y.toNat) = x + y.setWidth w := by
  rw [BitVec.ofInt_add, BitVec.ofInt_toInt, BitVec.ofInt_natCast, BitVec.ofNat_toNat]

theorem ofInt_wrapSize_sub_edgeValue (c : BitVec 16) :
    BitVec.ofInt 17 (Config.wrapSize - edgeValue c) = BitVec.ofNat 17 (65536 - c.toNat) := by
  have inRange : c.toNat ≤ 65536 := by omega
  have difference : Config.wrapSize - edgeValue c = ((65536 - c.toNat : Nat) : Int) :=
    (Int.ofNat_sub inRange).symm
  rw [difference, BitVec.ofInt_natCast]

theorem exec_edge_eq (c : BitVec 16) (s : State) :
    exec (.edge c) s = .next { s with
      ovfPend := false
      sample := s.count + c.setWidth 64
      countAdd := BitVec.ofNat 17 (65536 - c.toNat)
      count := 0
      ppsMiss := satIncU32 s.ppsMiss } := by
  rw [exec, execEdge, ofInt_wrapSize_sub_edgeValue, edgeValue, ofInt_toInt_add_toNat]

/-- Settles O16: OVF writes OVFPEND alone. -/
theorem ovfLatchesTheOverflow : Obligations.OvfLatchesTheOverflow := exec_ovf_eq

/-- Settles O17: with OVFPEND set the stored integer sum is addition modulo 2^64; with it clear WRAP is idle. -/
theorem wrapServicesAPendingOverflow : Obligations.WrapServicesAPendingOverflow := by
  refine fun s => ⟨fun pending => ?_, exec_wrap_of_idle⟩
  rw [exec_wrap_of_pending pending, ofInt_toInt_add_toNat]
  rfl

/-- Settles O19: SAMPLE's stored sum is addition modulo 2^64, and COUNTADD's difference is never negative. -/
theorem edgeLatchesTheSample : Obligations.EdgeLatchesTheSample :=
  fun s c => exec_edge_eq c s

end Sys2Proof.Machine
end

section
/-! What phases 2 and 3 of a PASS leave unchanged: no fault entry and no handler writes a register of the Tick
Accumulator, the sample latch, the command-error record or DIAG_SECERR. -/

namespace Sys2Proof.Machine

/-- The state with everything that a fault entry or a handler may write blanked. Two states that agree here agree in
every other field. -/
def State.withoutControl (s : State) : State :=
  { s with
    trace := []
    mode := .start
    winSum := 0
    winCnt := 0
    iHist := 0
    lockCnt := 0
    minNoAdj := 0
    duty := 0
    diagWErr := 0
    diagP := 0
    diagI := 0
    diagAdj := 0
    diagFlags := 0 }

theorem recoverUnless_withoutControl (detected : Bool) (s : State) :
    (recoverUnless detected s).withoutControl = s.withoutControl := by
  cases detected <;> rfl

theorem handleFastInit_withoutControl (p : PassInputs) (s : State) :
    (handleFastInit p s).withoutControl = s.withoutControl := by
  unfold handleFastInit
  split <;> rfl

theorem handleFastWait_withoutControl (p : PassInputs) (s : State) :
    (handleFastWait p s).withoutControl = s.withoutControl := by
  simp only [handleFastWait]
  split
  · split <;> rfl
  · rfl

theorem handleSlowInit_withoutControl (p : PassInputs) (s : State) :
    (handleSlowInit p s).withoutControl = s.withoutControl := by
  unfold handleSlowInit
  split <;> rfl

theorem fastAdjust_withoutControl (error : Int) (s : State) :
    (fastAdjust error s).withoutControl = s.withoutControl := by
  obtain ⟨_, _, -, -, ⟨-, applied⟩ | ⟨-, idle⟩⟩ := fastAdjust_cases error s
  · rw [applied]; rfl
  · rw [idle]; rfl

theorem fastClose_withoutControl (error : Int) (s : State) :
    (fastClose error s).withoutControl = s.withoutControl := by
  obtain ⟨-, -, locked⟩ | ⟨-, -, counted⟩ | ⟨-, cleared⟩ := fastClose_cases error s
  · rw [locked]; rfl
  · rw [counted, fastAdjust_withoutControl]; rfl
  · rw [cleared, fastAdjust_withoutControl]; rfl

theorem slowClose_withoutControl (error : Int) (s : State) :
    (slowClose error s).withoutControl = s.withoutControl := by
  obtain ⟨-, demoted⟩ | ⟨-, _, _, _, -, -, -, ⟨-, applied⟩ | ⟨-, idle⟩⟩ := slowClose_cases error s
  · rw [demoted]; rfl
  · rw [applied]; rfl
  · rw [idle]; rfl

theorem windowStep_withoutControl (size sample : Int) (s : State) :
    (windowStep size sample s).1.withoutControl = s.withoutControl := by
  obtain ⟨-, settling⟩ | ⟨-, -, accumulating⟩ | ⟨-, -, closing⟩ := windowStep_cases size sample s
  · rw [settling]; rfl
  · rw [accumulating]; rfl
  · rw [closing]; rfl

theorem handleFast_withoutControl (p : PassInputs) (s : State) :
    (handleFast p s).withoutControl = s.withoutControl := by
  have window := windowStep_withoutControl Config.sampleSeconds p.sample s
  unfold handleFast
  split
  · split
    next stepped =>
      rw [stepped] at window
      exact window
    next stepped =>
      rw [stepped] at window
      exact (fastClose_withoutControl _ _).trans window
  · rfl

theorem handleSlow_withoutControl (p : PassInputs) (s : State) :
    (handleSlow p s).withoutControl = s.withoutControl := by
  have window := windowStep_withoutControl Config.sampleMinute p.sample s
  unfold handleSlow
  split
  · split
    next stepped =>
      rw [stepped] at window
      exact window
    next stepped =>
      rw [stepped] at window
      exact (slowClose_withoutControl _ _).trans window
  · rfl

theorem handler_withoutControl (p : PassInputs) (s : State) : (handler p s).withoutControl = s.withoutControl := by
  cases hm : s.mode <;> simp only [handler, hm]
  case start | checkErrors | good => rfl
  case oscCold | noOscClock | noGpsPps | noGpsLock => exact recoverUnless_withoutControl _ s
  case fastInit => exact handleFastInit_withoutControl p s
  case fastWait => exact handleFastWait_withoutControl p s
  case fast => exact handleFast_withoutControl p s
  case slowInit => exact handleSlowInit_withoutControl p s
  case slow => exact handleSlow_withoutControl p s

theorem passPhasesTwoThree_withoutControl (p : PassInputs) (s : State) :
    (passPhasesTwoThree p s).withoutControl = s.withoutControl := by
  obtain ⟨_, -, entered⟩ | ⟨-, handled⟩ := passPhasesTwoThree_cases p s
  · rw [entered]; rfl
  · rw [handled, handler_withoutControl]

/-- A PASS answers a next state, which outside the control registers is what its phase 1 left. -/
theorem exec_pass_withoutControl (cold lost : Bool) (s : State) :
    ∃ t, exec (.pass cold lost) s = .next t ∧ t.withoutControl = s.snapped.withoutControl :=
  ⟨_, exec_pass_eq cold lost s, passPhasesTwoThree_withoutControl _ _⟩

end Sys2Proof.Machine
end

section
/-! The snapshot of a PASS (R121) and the effective fault signals (R123). -/

namespace Sys2Proof.Machine

theorem snapped_sample (s : State) : s.snapped.sample = 0 := by
  by_cases h : s.sample = 0
  · rw [snapped_of_not_ready h, h]
  · rw [snapped_of_ready h]

theorem snapped_ppsMiss (s : State) : s.snapped.ppsMiss = if s.sample = 0 then s.ppsMiss else 0 := by
  by_cases h : s.sample = 0
  · rw [snapped_of_not_ready h, if_pos h]
  · rw [snapped_of_ready h, if_neg h]

/-- Settles O25: phase 1 clears the latch as R121 says, and the later phases write none of the five registers. -/
theorem passSnapshotConsumesTheSample : Obligations.PassSnapshotConsumesTheSample := by
  intro s cold lost
  obtain ⟨t, run, frame⟩ := exec_pass_withoutControl cold lost s
  have sample : t.sample = 0 := (congrArg State.sample frame).trans (snapped_sample s)
  have ppsMiss : t.ppsMiss = if s.sample = 0 then s.ppsMiss else 0 :=
    (congrArg State.ppsMiss frame).trans (snapped_ppsMiss s)
  refine ⟨t, run, fun ready => ⟨sample, ?_⟩, fun empty => ⟨?_, ?_⟩, ?_, ?_, ?_⟩
  · rw [ppsMiss, if_neg ready]
  · rw [sample, empty]
  · rw [ppsMiss, if_pos empty]
  · exact (congrArg State.count frame).trans (snapped_count s)
  · exact (congrArg State.countAdd frame).trans (snapped_countAdd s)
  · exact (congrArg State.ovfPend frame).trans (snapped_ovfPend s)

theorem effectiveCold_of_compiledOut {cfg : Cfg} (h : cfg.haveOscColdSignal = false) (cold : Bool) :
    effectiveCold cfg cold = false := by
  rw [effectiveCold, h, Bool.and_false]

theorem effectiveLost_of_compiledOut {cfg : Cfg} (h : cfg.haveGpsLockSignal = false) (lost : Bool) :
    effectiveLost cfg lost = false := by
  rw [effectiveLost, h, Bool.and_false]

/-- Settles O30: a PASS reads its two bits only through the effective signals. -/
theorem compiledOutSignalsAreIgnored : Obligations.CompiledOutSignalsAreIgnored := by
  refine fun s cold lost => ⟨fun noCold => ?_, fun noLost => ?_⟩ <;> rw [exec_pass_eq, exec_pass_eq]
  · simp only [passInputs, effectiveCold_of_compiledOut noCold]
  · simp only [passInputs, effectiveLost_of_compiledOut noLost]

end Sys2Proof.Machine
end

section
/-! Samples that no handler uses (R122): there, changing the sample of a pass, and DIAG_SECERR's report of it, changes
DIAG_SECERR alone. -/

namespace Sys2Proof.Machine

/-- A pass's inputs with another sample. -/
def PassInputs.withSample (p : PassInputs) (v : Int) : PassInputs := { p with sample := v }

/-- The state with another DIAG_SECERR. -/
def State.withSecErr (s : State) (d : BitVec 64) : State := { s with diagSecErr := d }

@[simp] theorem withSecErr_mode (s : State) (d : BitVec 64) : (s.withSecErr d).mode = s.mode := rfl
@[simp] theorem withSecErr_winCnt (s : State) (d : BitVec 64) : (s.withSecErr d).winCnt = s.winCnt := rfl

/-- The handler of the mode does not use the sample: the mode is not PPS-gated, or it discards the sample to settle. -/
def State.HandlerIgnoresSample (s : State) : Prop :=
  isPpsGated s.mode = false ∨ s.mode ∈ [Mode.fastInit, .fastWait, .slowInit] ∨ s.winCnt.toInt < 0

theorem winCnt_neg_of_windowMode {s : State} (h : s.HandlerIgnoresSample) (hm : s.mode = .fast ∨ s.mode = .slow) :
    s.winCnt.toInt < 0 := by
  obtain hm | hm := hm <;> simpa [State.HandlerIgnoresSample, hm, isPpsGated] using h

theorem windowStep_of_settling {s : State} (h : s.winCnt.toInt < 0) (size sample : Int) :
    windowStep size sample s = ({ s with winCnt := BitVec.ofInt 32 (s.winCnt.toInt + 1) }, none) := by
  simp only [windowStep, h, if_true]

theorem handleFast_of_settling {s : State} (h : s.winCnt.toInt < 0) (p : PassInputs) :
    handleFast p s = if p.ready then { s with winCnt := BitVec.ofInt 32 (s.winCnt.toInt + 1) } else s := by
  simp only [handleFast, windowStep_of_settling h]

theorem handleSlow_of_settling {s : State} (h : s.winCnt.toInt < 0) (p : PassInputs) :
    handleSlow p s = if p.ready then { s with winCnt := BitVec.ofInt 32 (s.winCnt.toInt + 1) } else s := by
  simp only [handleSlow, windowStep_of_settling h]

theorem handler_withSample_of_ignored {s : State} (h : s.HandlerIgnoresSample) (p : PassInputs) (v : Int) :
    handler (p.withSample v) s = handler p s := by
  cases hm : s.mode <;> simp only [handler, hm]
  case fast =>
    have settling := winCnt_neg_of_windowMode h (.inl hm)
    rw [handleFast_of_settling settling, handleFast_of_settling settling]
    rfl
  case slow =>
    have settling := winCnt_neg_of_windowMode h (.inr hm)
    rw [handleSlow_of_settling settling, handleSlow_of_settling settling]
    rfl
  all_goals rfl

theorem recoverUnless_withSecErr (detected : Bool) (s : State) (d : BitVec 64) :
    recoverUnless detected (s.withSecErr d) = (recoverUnless detected s).withSecErr d := by
  cases detected <;> rfl

theorem handleFastInit_withSecErr (p : PassInputs) (s : State) (d : BitVec 64) :
    handleFastInit p (s.withSecErr d) = (handleFastInit p s).withSecErr d := by
  unfold handleFastInit
  split <;> rfl

theorem handleFastWait_withSecErr (p : PassInputs) (s : State) (d : BitVec 64) :
    handleFastWait p (s.withSecErr d) = (handleFastWait p s).withSecErr d := by
  by_cases settled : 0 ≤ s.winCnt.toInt + 1
  · simp only [handleFastWait, withSecErr_winCnt, settled, if_true]
    split <;> rfl
  · simp only [handleFastWait, withSecErr_winCnt, settled, if_false]
    split <;> rfl

theorem handleSlowInit_withSecErr (p : PassInputs) (s : State) (d : BitVec 64) :
    handleSlowInit p (s.withSecErr d) = (handleSlowInit p s).withSecErr d := by
  unfold handleSlowInit
  split <;> rfl

theorem handleFast_withSecErr_of_settling {s : State} (h : s.winCnt.toInt < 0) (p : PassInputs) (d : BitVec 64) :
    handleFast p (s.withSecErr d) = (handleFast p s).withSecErr d := by
  rw [handleFast_of_settling h, handleFast_of_settling (s := s.withSecErr d) h]
  split <;> rfl

theorem handleSlow_withSecErr_of_settling {s : State} (h : s.winCnt.toInt < 0) (p : PassInputs) (d : BitVec 64) :
    handleSlow p (s.withSecErr d) = (handleSlow p s).withSecErr d := by
  rw [handleSlow_of_settling h, handleSlow_of_settling (s := s.withSecErr d) h]
  split <;> rfl

theorem handler_withSecErr_of_ignored {s : State} (h : s.HandlerIgnoresSample) (p : PassInputs) (d : BitVec 64) :
    handler p (s.withSecErr d) = (handler p s).withSecErr d := by
  cases hm : s.mode <;> simp only [handler, withSecErr_mode, hm]
  case start | checkErrors | good => rfl
  case oscCold | noOscClock | noGpsPps | noGpsLock => exact recoverUnless_withSecErr _ s d
  case fastInit => exact handleFastInit_withSecErr p s d
  case fastWait => exact handleFastWait_withSecErr p s d
  case slowInit => exact handleSlowInit_withSecErr p s d
  case fast => exact handleFast_withSecErr_of_settling (winCnt_neg_of_windowMode h (.inl hm)) p d
  case slow => exact handleSlow_withSecErr_of_settling (winCnt_neg_of_windowMode h (.inr hm)) p d

theorem passPhasesTwoThree_of_ignoredSample {p : PassInputs} {s : State}
    (h : faultEntry p s.mode = none → s.HandlerIgnoresSample) (v : Int) (d : BitVec 64) :
    passPhasesTwoThree (p.withSample v) (s.withSecErr d) = (passPhasesTwoThree p s).withSecErr d := by
  have sameEntry : faultEntry (p.withSample v) s.mode = faultEntry p s.mode := rfl
  simp only [passPhasesTwoThree, withSecErr_mode, sameEntry]
  cases entry : faultEntry p s.mode with
  | some m => rfl
  | none =>
    have ignored : (s.withSecErr d).HandlerIgnoresSample := h entry
    exact (handler_withSample_of_ignored ignored p v).trans (handler_withSecErr_of_ignored (h entry) p d)

theorem isPpsGated_of_isFaultMode {m : Mode} (h : isFaultMode m = true) : isPpsGated m = false := by
  revert h
  cases m <;> decide

/-- A pass whose fault check passes is in a fault mode, which checks only its own recovery, or sees no fault (R141). -/
theorem isFaultMode_or_noFault_of_faultEntry_eq_none {cold lost : Bool} {s : State} {m : Mode}
    (h : faultEntry (passInputs cold lost s) m = none) : isFaultMode m = true ∨ s.NoFault cold lost := by
  unfold faultEntry at h
  split_ifs at h with faultMode noCold noLost noPps noClock
  · exact .inl faultMode
  · exact .inr ⟨mt detectOscCold_iff.mpr noCold, mt detectNoGpsLock_iff.mpr noLost, mt detectNoGpsPps_iff.mpr noPps,
      mt detectNoOscClock_iff.mpr noClock⟩

theorem passInputs_deliver {v1 v2 : BitVec 64} (h1 : v1 ≠ 0) (h2 : v2 ≠ 0) (s : State) (cold lost : Bool) :
    passInputs cold lost (s.deliver v2) = (passInputs cold lost (s.deliver v1)).withSample v2.toInt := by
  have ready1 : sampleReady (s.deliver v1) = true := decide_eq_true h1
  have ready2 : sampleReady (s.deliver v2) = true := decide_eq_true h2
  simp only [passInputs, ready1, ready2]
  rfl

theorem snapped_deliver {v1 v2 : BitVec 64} (h1 : v1 ≠ 0) (h2 : v2 ≠ 0) (s : State) :
    (s.deliver v2).snapped = (s.deliver v1).snapped.withSecErr (BitVec.ofInt 64 (10000000 - v2.toInt)) := by
  rw [snapped_of_ready (s := s.deliver v1) h1, snapped_of_ready (s := s.deliver v2) h2]
  rfl

/-- R122's cases, as they stand once no fault entry has ended the pass: a detected fault leaves only the fault modes. -/
theorem handlerIgnoresSample_of_unused {s : State} {cold lost : Bool} {v : BitVec 64}
    (unused : isPpsGated s.mode = false ∨ s.ColdFault cold ∨ s.LostFault lost ∨ s.PpsFault
      ∨ s.mode ∈ [Mode.fastInit, .fastWait, .slowInit] ∨ s.winCnt.toInt < 0)
    (entry : faultEntry (passInputs cold lost (s.deliver v)) s.mode = none) :
    (s.deliver v).snapped.HandlerIgnoresSample := by
  rw [State.HandlerIgnoresSample, snapped_winCnt, snapped_mode]
  obtain faultMode | noFault := isFaultMode_or_noFault_of_faultEntry_eq_none entry
  · exact .inl (isPpsGated_of_isFaultMode faultMode)
  · obtain ungated | coldFault | lostFault | ppsFault | ignored := unused
    · exact .inl ungated
    · exact absurd coldFault noFault.cold
    · exact absurd lostFault noFault.lost
    · exact absurd ppsFault noFault.pps
    · exact .inr ignored

/-- Settles O29: phase 1 leaves the two passes equal but for DIAG_SECERR, their fault checks are the same, and where no
fault entry ends them the handler ignores the sample. -/
theorem unusedSampleIsDiscarded : Obligations.UnusedSampleIsDiscarded := by
  intro s t1 t2 cold lost v1 v2 h1 h2 unused run1 run2
  have ignored : faultEntry (passInputs cold lost (s.deliver v1)) (s.deliver v1).snapped.mode = none →
      (s.deliver v1).snapped.HandlerIgnoresSample := by
    rw [snapped_mode]
    exact handlerIgnoresSample_of_unused unused
  rw [exec_pass_eq] at run1 run2
  rw [passInputs_deliver h1 h2, snapped_deliver h1 h2, passPhasesTwoThree_of_ignoredSample ignored] at run2
  cases run1
  cases run2
  rfl

end Sys2Proof.Machine
end

section
/-! The Fault Monitor (R140 to R148): what a PASS does by fault entry, in a fault mode, and in an ungated mode with no
fault. -/

namespace Sys2Proof.Machine

theorem isFaultMode_iff {m : Mode} :
    isFaultMode m = true ↔ m ∈ [Mode.oscCold, .noOscClock, .noGpsPps, .noGpsLock] := by
  cases m <;> decide

theorem faultEntry_of_isFaultMode {m : Mode} (h : isFaultMode m = true) (p : PassInputs) : faultEntry p m = none := by
  rw [faultEntry, if_pos h]

/-- FaultEntry outside the fault modes, in the terms of the faults a pass sees (R140, R141). -/
theorem faultEntry_of_not_isFaultMode {m : Mode} (h : ¬ isFaultMode m = true) (cold lost : Bool) (s : State) :
    faultEntry (passInputs cold lost s) m =
      if s.ColdFault cold then some .oscCold
      else if s.LostFault lost then some .noGpsLock
      else if s.PpsFault then some .noGpsPps
      else if s.ClockFault then some .noOscClock
      else none := by
  rw [faultEntry, if_neg h]
  simp only [detectOscCold_iff, detectNoGpsLock_iff, detectNoGpsPps_iff, detectNoOscClock_iff]

/-- A PASS that enters a fault mode ends there, with only MODE written after phase 1. -/
theorem exec_pass_of_faultEntry {cold lost : Bool} {s : State} {m : Mode}
    (entry : faultEntry (passInputs cold lost s) s.mode = some m) :
    exec (.pass cold lost) s = .next { s.snapped with mode := m } := by
  rw [exec_pass_eq, passPhasesTwoThree, snapped_mode, entry]
  rfl

/-- In a fault mode no fault entry is made: a PASS is the mode's handler on the state phase 1 leaves. -/
theorem exec_pass_of_isFaultMode {s : State} (h : isFaultMode s.mode = true) (cold lost : Bool) :
    exec (.pass cold lost) s = .next (handler (passInputs cold lost s) s.snapped) := by
  rw [exec_pass_eq, passPhasesTwoThree, snapped_mode, faultEntry_of_isFaultMode h]

/-- Settles O31: FaultEntry gives the first fault that holds, and a PASS that enters a fault mode ends there. -/
theorem faultEntryByPriority : Obligations.FaultEntryByPriority := by
  intro s cold lost notFaultMode
  have entry := faultEntry_of_not_isFaultMode (mt isFaultMode_iff.mp notFaultMode) cold lost s
  refine ⟨fun isCold => ?_, fun noCold isLost => ?_, fun noCold noLost isPps => ?_,
    fun noCold noLost noPps isClock => ?_⟩ <;> apply exec_pass_of_faultEntry
  · rw [entry, if_pos isCold]
  · rw [entry, if_neg noCold, if_pos isLost]
  · rw [entry, if_neg noCold, if_neg noLost, if_pos isPps]
  · rw [entry, if_neg noCold, if_neg noLost, if_neg noPps, if_pos isClock]

/-- A fault mode whose handler recovers by `detect` holds exactly while the fault that `detect` detects does. -/
theorem exec_pass_of_recovery (detect : PassInputs → Bool) {s : State} {cold lost : Bool} {fault : Prop}
    (faultMode : isFaultMode s.mode = true)
    (handled : ∀ p, handler p s.snapped = recoverUnless (detect p) s.snapped)
    (detects : detect (passInputs cold lost s) = true ↔ fault) :
    (fault → exec (.pass cold lost) s = .next s.snapped)
      ∧ (¬ fault → exec (.pass cold lost) s = .next { s.snapped with mode := .checkErrors }) := by
  rw [exec_pass_of_isFaultMode faultMode, handled, recoverUnless]
  exact ⟨fun h => by rw [if_pos (detects.mpr h)], fun h => by rw [if_neg (mt detects.mp h)]⟩

/-- Settles O32: the handler of each fault mode recovers by that mode's own detection predicate. -/
theorem faultModesRecoverOnTheirOwnPredicate : Obligations.FaultModesRecoverOnTheirOwnPredicate := by
  refine fun s cold lost => ⟨fun hm => ?_, fun hm => ?_, fun hm => ?_, fun hm => ?_⟩
  · refine exec_pass_of_recovery detectOscCold (by rw [hm]; rfl) (fun p => ?_) detectOscCold_iff
    simp only [handler, snapped_mode, hm, handleOscCold]
  · refine exec_pass_of_recovery detectNoGpsLock (by rw [hm]; rfl) (fun p => ?_) detectNoGpsLock_iff
    simp only [handler, snapped_mode, hm, handleNoGpsLock]
  · refine exec_pass_of_recovery detectNoGpsPps (by rw [hm]; rfl) (fun p => ?_) detectNoGpsPps_iff
    simp only [handler, snapped_mode, hm, handleNoGpsPps]
  · refine exec_pass_of_recovery detectNoOscClock (by rw [hm]; rfl) (fun p => ?_) detectNoOscClock_iff
    simp only [handler, snapped_mode, hm, handleNoOscClock]

/-- Settles O33: with no fault a PASS is its mode's handler, and these three handlers write MODE alone. -/
theorem ungatedModesAdvance : Obligations.UngatedModesAdvance := by
  intro s cold lost noFault
  rw [exec_pass_of_noFault noFault]
  refine ⟨?_, fun hm => ?_⟩
  · rintro (hm | hm)
    · simp only [handler, snapped_mode, hm, handleStart]
    · simp only [handler, snapped_mode, hm, handleCheckErrors]
  · simp only [handler, snapped_mode, hm, handleGood]

end Sys2Proof.Machine
end

section
/-! The control loop short of a window's close (R160 to R165, R173, R175, R176): a PPS-gated mode waits for a sample,
FASTINIT, FASTWAIT and SLOWINIT use one only as a tick, and FAST and SLOW count one into their window. -/

namespace Sys2Proof.Machine

theorem passInputs_not_ready {s : State} (h : s.sample = 0) (cold lost : Bool) :
    (passInputs cold lost s).ready = false :=
  Bool.eq_false_iff.mpr fun ready => passInputs_ready.mp ready h

/-- Without a sample the handler of a PPS-gated mode does nothing (R160). -/
theorem handler_of_isPpsGated_of_not_ready {p : PassInputs} {s : State} (gated : isPpsGated s.mode = true)
    (notReady : p.ready = false) : handler p s = s := by
  cases hm : s.mode
  case fastInit => simp only [handler, hm, handleFastInit, notReady, Bool.false_eq_true, if_false]
  case fastWait => simp only [handler, hm, handleFastWait, notReady, Bool.false_eq_true, if_false]
  case fast => simp only [handler, hm, handleFast, notReady, Bool.false_eq_true, if_false]
  case slowInit => simp only [handler, hm, handleSlowInit, notReady, Bool.false_eq_true, if_false]
  case slow => simp only [handler, hm, handleSlow, notReady, Bool.false_eq_true, if_false]
  all_goals simp only [hm, isPpsGated, Bool.false_eq_true] at gated

theorem isPpsGated_iff {m : Mode} :
    isPpsGated m = true ↔ m ∈ [Mode.fastInit, .fastWait, .fast, .slowInit, .slow] := by
  cases m <;> decide

/-- Settles O37: with no sample the snapshot clears DIAG_FLAGS alone, and a gated mode's handler does nothing. -/
theorem gatedModesWaitForASample : Obligations.GatedModesWaitForASample := by
  intro s cold lost gatedMode noFault empty
  have gated : isPpsGated s.snapped.mode = true := by rw [snapped_mode]; exact isPpsGated_iff.mpr gatedMode
  rw [exec_pass_of_noFault noFault, handler_of_isPpsGated_of_not_ready gated (passInputs_not_ready empty cold lost),
    snapped_of_not_ready empty]

/-- Settles O38: FASTINIT's handler on a ready sample. -/
theorem fastInitStartsTheSettle : Obligations.FastInitStartsTheSettle := by
  intro s cold lost hm noFault ready
  rw [exec_pass_of_noFault noFault]
  simp only [handler, snapped_mode, hm, handleFastInit, passInputs_ready.mpr ready, if_true, config_fastSettle]

/-- Settles O39: FASTWAIT's handler branches on the sign of the counted-up WINCNT. -/
theorem fastWaitCountsTheSettle : Obligations.FastWaitCountsTheSettle := by
  intro s cold lost hm noFault ready
  rw [exec_pass_of_noFault noFault]
  simp only [handler, snapped_mode, hm, handleFastWait, passInputs_ready.mpr ready, if_true, snapped_winCnt]
  refine ⟨fun settling => ?_, fun expired => ?_⟩
  · rw [if_neg (by omega), winCnt_succ]
  · rw [if_pos expired]

/-- Settles O40: SLOWINIT's handler on a ready sample does not write LOCKCNT. -/
theorem slowInitClearsTheTracking : Obligations.SlowInitClearsTheTracking := by
  intro s cold lost hm noFault ready
  rw [exec_pass_of_noFault noFault]
  simp only [handler, snapped_mode, hm, handleSlowInit, passInputs_ready.mpr ready, if_true]

/-- A window sample that finds the window open and leaves it open (R165, R176). -/
theorem windowStep_of_open {size : Int} {s : State} (opened : 0 ≤ s.winCnt.toInt) (room : s.winCnt.toInt + 1 < size)
    (v : BitVec 64) :
    windowStep size v.toInt s = ({ s with winSum := s.winSum + v, winCnt := s.winCnt + 1 }, none) := by
  simp only [windowStep, not_lt.mpr opened, room, if_true, if_false, winSum_add, winCnt_succ]

/-- A FAST pass whose sample does not close the window does the window's step alone. -/
theorem exec_pass_fast_of_windowStep {s t : State} {cold lost : Bool} (hm : s.mode = .fast)
    (noFault : s.NoFault cold lost) (ready : s.sample ≠ 0) (window : windowStep 8 s.sample.toInt s.snapped = (t, none)) :
    exec (.pass cold lost) s = .next t := by
  rw [exec_pass_of_noFault noFault]
  simp only [handler, snapped_mode, hm, handleFast, passInputs_ready.mpr ready, if_true, config_sampleSeconds,
    passInputs_sample, window]

/-- A SLOW pass whose sample does not close the window does the window's step alone. -/
theorem exec_pass_slow_of_windowStep {s t : State} {cold lost : Bool} (hm : s.mode = .slow)
    (noFault : s.NoFault cold lost) (ready : s.sample ≠ 0)
    (window : windowStep 60 s.sample.toInt s.snapped = (t, none)) : exec (.pass cold lost) s = .next t := by
  rw [exec_pass_of_noFault noFault]
  simp only [handler, snapped_mode, hm, handleSlow, passInputs_ready.mpr ready, if_true, config_sampleMinute,
    passInputs_sample, window]

/-- Settles O41: a negative WINCNT makes the window's step, of either size, count the sample and drop it. -/
theorem settleSamplesAreDiscarded : Obligations.SettleSamplesAreDiscarded := by
  intro s cold lost hm noFault ready settling
  have window (size : Int) :
      windowStep size s.sample.toInt s.snapped = ({ s.snapped with winCnt := s.winCnt + 1 }, none) := by
    rw [windowStep_of_settling (by rwa [snapped_winCnt]), snapped_winCnt, winCnt_succ]
  obtain fast | slow := hm
  · exact exec_pass_fast_of_windowStep fast noFault ready (window 8)
  · exact exec_pass_slow_of_windowStep slow noFault ready (window 60)

/-- Settles O42: while the window has room its step, of either size, accumulates the sample and counts it. -/
theorem openWindowsAccumulate : Obligations.OpenWindowsAccumulate := by
  intro s cold lost noFault ready opened hm
  have window {size : Int} (room : s.winCnt.toInt + 1 < size) : windowStep size s.sample.toInt s.snapped
      = ({ s.snapped with winSum := s.winSum + s.sample, winCnt := s.winCnt + 1 }, none) := by
    rw [windowStep_of_open (by rwa [snapped_winCnt]) (by rwa [snapped_winCnt]), snapped_winSum, snapped_winCnt]
  obtain ⟨fast, room⟩ | ⟨slow, room⟩ := hm
  · exact exec_pass_fast_of_windowStep fast noFault ready (window room)
  · exact exec_pass_slow_of_windowStep slow noFault ready (window room)

end Sys2Proof.Machine
end

section
/-! The actuator's store: the exact sum clamped to [1, 65535], which 16 bits hold without wrapping (R200). -/

namespace Sys2Proof.Machine

/-- R200 as one write: everything ApplyAdjust changes, the clamp written as bounds on the exact sum. -/
theorem applyAdjust_eq (adj : Int) (s : State) :
    applyAdjust adj s = { s with
      duty := BitVec.ofInt 16 (max 1 (min 65535 ((s.duty.toNat : Int) + adj)))
      diagFlags := s.diagFlags ||| 4
      trace := s.trace ++ [.strobe .actuatorWrite] } := by
  have clamped : clamp ((s.duty.toNat : Int) + adj) Config.dutyMin Config.dutyMax
      = max 1 (min 65535 ((s.duty.toNat : Int) + adj)) := clamp_eq (by decide)
  rw [← clamped]
  rfl

/-- The stored DUTY reads back as the clamped sum: the clamp's range fits its 16 bits. -/
theorem applyAdjust_duty_toNat (adj : Int) (s : State) :
    ((applyAdjust adj s).duty.toNat : Int) = max 1 (min 65535 ((s.duty.toNat : Int) + adj)) := by
  rw [applyAdjust_duty, dutyStore_toNat]

/-- Settles O51: the write is the clamped sum's, and the clamped sum is a 16-bit value. -/
theorem actuatorClampsAndNeverWraps : Obligations.ActuatorClampsAndNeverWraps :=
  fun s adj => ⟨applyAdjust_eq adj s, applyAdjust_duty_toNat adj s⟩

end Sys2Proof.Machine
end

section
/-! RDREG (R220 to R222): each register is declared signed or unsigned, so it holds an integer; the value driven is that
integer in 64 bits. -/

namespace Sys2Proof.Machine

/-- The integer a register holds by its declaration (R22), with FLAGS composed as R38 says and MODE as its code. -/
def registerInt (s : State) : RegName → Int
  | .count => s.count.toInt
  | .countAdd => s.countAdd.toNat
  | .sample => s.sample.toInt
  | .flags => 4 * s.cmdErr.toNat + 2 * (sampleReady s).toNat + s.ovfPend.toNat
  | .ppsMiss => s.ppsMiss.toNat
  | .mode => (modeCode s.mode).toNat
  | .winSum => s.winSum.toInt
  | .winCnt => s.winCnt.toInt
  | .iHist => s.iHist.toInt
  | .lockCnt => s.lockCnt.toNat
  | .minNoAdj => s.minNoAdj.toNat
  | .duty => s.duty.toNat
  | .errCause => s.errCause.toNat
  | .diagSecErr => s.diagSecErr.toInt
  | .diagWErr => s.diagWErr.toInt
  | .diagP => s.diagP.toInt
  | .diagI => s.diagI.toInt
  | .diagAdj => s.diagAdj.toInt
  | .diagFlags => s.diagFlags.toNat

theorem setWidth_eq_ofInt_toNat {w v : Nat} (x : BitVec v) : x.setWidth w = BitVec.ofInt w x.toNat := by
  rw [BitVec.ofInt_natCast, BitVec.ofNat_toNat]

theorem flagsValue_eq_ofInt_registerInt (s : State) : flagsValue s = BitVec.ofInt 64 (registerInt s .flags) := by
  simp only [flagsValue, registerInt]
  cases s.cmdErr <;> cases sampleReady s <;> cases s.ovfPend <;> rfl

/-- R221: zero- and sign-extension keep the integer a register holds. -/
theorem readValue_eq_ofInt_registerInt (s : State) (r : RegName) :
    readValue s r = BitVec.ofInt 64 (registerInt s r) := by
  cases r with
  | count | sample | winSum | diagSecErr | diagWErr | diagP | diagI | diagAdj => exact BitVec.ofInt_toInt.symm
  | winCnt | iHist => rfl
  | countAdd | ppsMiss | mode | lockCnt | minNoAdj | duty | errCause | diagFlags => exact setWidth_eq_ofInt_toNat _
  | flags => exact flagsValue_eq_ofInt_registerInt s

theorem regName_of_toNat_eq {reg : BitVec 5} {r : RegName} (h : reg.toNat = (regNumber r).toNat) :
    regName reg = some r := by
  rw [BitVec.eq_of_toNat_eq h, regName_regNumber]

/-- RDREG of a register's number drives the integer it holds, and that output is the whole change (R220, R221). -/
theorem exec_rdreg_of_number {reg : BitVec 5} {r : RegName} (h : reg.toNat = (regNumber r).toNat) (s : State) :
    exec (.rdreg reg) s =
      .next { s with trace := s.trace ++ [.rdata (BitVec.ofInt 64 (registerInt s r))] } := by
  rw [exec_rdreg_of_name (regName_of_toNat_eq h), readValue_eq_ofInt_registerInt]
  rfl

/-- The codes of R31. -/
theorem modeCode_table : ∀ row ∈ [(Mode.start, (0 : Int)), (.checkErrors, 1), (.oscCold, 2), (.noOscClock, 3),
    (.noGpsPps, 4), (.noGpsLock, 5), (.good, 6), (.fastInit, 7), (.fastWait, 8), (.fast, 9), (.slowInit, 10),
    (.slow, 11)], row.2 = (modeCode row.1).toNat := by
  decide

/-- Settles O55: every listed pair is a register's number and the integer it holds, which RDREG drives. -/
theorem rdregReadsEachRegister : Obligations.RdregReadsEachRegister := by
  intro s reg value listed
  have reads (r : RegName) : reg.toNat = (regNumber r).toNat ∧ value = registerInt s r →
      exec (.rdreg reg) s = .next { s with trace := s.trace ++ [.rdata (BitVec.ofInt 64 value)] } := by
    rintro ⟨number, rfl⟩
    exact exec_rdreg_of_number number s
  obtain h | h | h | h | h | ⟨number, coded⟩ | h | h | h | h | h | h | h | h | h | h | h | h | h := listed
  · exact reads .count h
  · exact reads .countAdd h
  · exact reads .sample h
  · exact reads .flags h
  · exact reads .ppsMiss h
  · exact reads .mode ⟨number, modeCode_table _ coded⟩
  · exact reads .winSum h
  · exact reads .winCnt h
  · exact reads .iHist h
  · exact reads .lockCnt h
  · exact reads .minNoAdj h
  · exact reads .duty h
  · exact reads .errCause h
  · exact reads .diagSecErr h
  · exact reads .diagWErr h
  · exact reads .diagP h
  · exact reads .diagI h
  · exact reads .diagAdj h
  · exact reads .diagFlags h

/-- Settles O56: a number from 19 on names no register, and cause 3 is the code of BAD_REGISTER. -/
theorem rdregOfAnUnassignedNumber : Obligations.RdregOfAnUnassignedNumber :=
  fun s _ unassigned => exec_rdreg_of_unassigned (regName_eq_none.mpr unassigned) s

end Sys2Proof.Machine
end

section
/-! The command-error record over one word (R243): only an RDREG of an unassigned number, among the transactions,
raises a command error, and a word is rejected by its OP or by its reserved bits alone. -/

namespace Sys2Proof

open Machine

/-- Two states with the same command-error record (R241). -/
def Machine.State.SameRecord (t s : State) : Prop := t.cmdErr = s.cmdErr ∧ t.errCause = s.errCause

theorem exec_wrap_sameRecord {s t : State} (run : exec .wrap s = .next t) : t.SameRecord s := by
  cases pending : s.ovfPend with
  | true => rw [exec_wrap_of_pending pending] at run; cases run; exact ⟨rfl, rfl⟩
  | false => rw [exec_wrap_of_idle pending] at run; cases run; exact ⟨rfl, rfl⟩

theorem exec_pass_sameRecord {cold lost : Bool} {s t : State} (run : exec (.pass cold lost) s = .next t) :
    t.SameRecord s := by
  obtain ⟨u, answer, frame⟩ := exec_pass_withoutControl cold lost s
  cases run.symm.trans answer
  exact ⟨(congrArg State.cmdErr frame).trans (snapped_cmdErr s),
    (congrArg State.errCause frame).trans (snapped_errCause s)⟩

theorem exec_rdreg_sameRecord {reg : BitVec 5} {s t : State} (assigned : reg.toNat < 19)
    (run : exec (.rdreg reg) s = .next t) : t.SameRecord s := by
  cases name : regName reg with
  | none => have := regName_eq_none.mp name; omega
  | some r => rw [exec_rdreg_of_name name] at run; cases run; exact ⟨rfl, rfl⟩

/-- No transaction touches the command-error record, but for an RDREG of an unassigned number (R222). -/
theorem exec_sameRecord {i : Instr} {s t : State} (assigned : ∀ reg, i = .rdreg reg → reg.toNat < 19)
    (run : exec i s = .next t) : t.SameRecord s := by
  cases i with
  | ovf => cases run; exact ⟨rfl, rfl⟩
  | wrap => exact exec_wrap_sameRecord run
  | edge c => cases run; exact ⟨rfl, rfl⟩
  | pass cold lost => exact exec_pass_sameRecord run
  | rdreg reg => exact exec_rdreg_sameRecord (assigned reg rfl) run

/-- A word that decodes to RDREG has OP 5, reserved bits 0 and the number of its low five bits. -/
theorem word_of_decode_rdreg {w : Word} {reg : BitVec 5} (h : decode w = .instr (.rdreg reg)) :
    w.toNat / 2 ^ 28 = 5 ∧ w.toNat / 2 ^ 5 % 2 ^ 23 = 0 ∧ reg.toNat = w.toNat % 2 ^ 5 := by
  obtain ⟨-, e⟩ | ⟨-, e⟩ | ⟨-, e⟩ | ⟨-, e⟩ | ⟨-, e⟩ | ⟨op, e⟩ := decode_cases w <;> rw [e] at h
  · cases h
  iterate 4 cases (unlessReserved_eq_instr.mp h).2
  obtain ⟨clear, number⟩ := unlessReserved_eq_instr.mp h
  cases number
  exact ⟨op, (extract_eq_zero_iff ..).mp clear, fieldReg_toNat w⟩

theorem decode_of_badRegister {w : Word} (h : BadRegisterWord w) : decode w = .instr (.rdreg (fieldReg w)) := by
  obtain ⟨op, clear, -⟩ := h
  obtain ⟨illegal, -⟩ | ⟨op', -⟩ | ⟨op', -⟩ | ⟨op', -⟩ | ⟨op', -⟩ | ⟨-, e⟩ := decode_cases w
  iterate 5 omega
  rw [e, unlessReserved_eq_instr]
  exact ⟨(extract_eq_zero_iff ..).mpr clear, rfl⟩

/-- The decoder has no further ground to reject a word (R79). -/
theorem decode_of_accepted {w : Word} (legal : ¬ IllegalOpWord w) (clear : ¬ ReservedSetWord w) :
    ∃ i, decode w = .instr i := by
  obtain ⟨illegal, -⟩ | ⟨op, e⟩ | ⟨op, e⟩ | ⟨op, e⟩ | ⟨op, e⟩ | ⟨op, e⟩ := decode_cases w
  · exact absurd illegal legal
  all_goals
    refine ⟨_, e.trans (unlessReserved_eq_instr.mpr ⟨?_, rfl⟩)⟩
    rw [extract_eq_zero_iff]
    omega

theorem step_of_badRegister {s : State} {w : Word} {rest : List Word} (hw : s.words = w :: rest)
    (bad : BadRegisterWord w) : step s = .next (State.errorRecorded { s with words := rest } 3) := by
  have unassigned : regName (fieldReg w) = none := by
    obtain ⟨-, -, number⟩ := bad
    rwa [regName_eq_none, fieldReg_toNat]
  rw [step_of_cons hw, issueWord_of_instr (decode_of_badRegister bad), exec_rdreg_of_unassigned unassigned]
  rfl

/-- A word with none of R243's three causes leaves the command-error record as it was. -/
theorem step_sameRecord_of_no_cause {s t : State} {w : Word} {rest : List Word} (hw : s.words = w :: rest)
    (legal : ¬ IllegalOpWord w) (clear : ¬ ReservedSetWord w) (known : ¬ BadRegisterWord w) (run : step s = .next t) :
    t.SameRecord s := by
  obtain ⟨i, hd⟩ := decode_of_accepted legal clear
  have assigned : ∀ reg, i = .rdreg reg → reg.toNat < 19 := by
    rintro reg rfl
    have := word_of_decode_rdreg hd
    omega
  rw [step_of_cons hw, issueWord_of_instr hd] at run
  exact exec_sameRecord (s := { s with words := rest }) assigned run

/-- On a state with no error recorded, recording an error records its own code. -/
theorem record_of_step_errorRecorded {s t : State} {rest : List Word} {code : BitVec 4} (noError : s.cmdErr = false)
    (run : step s = .next t) (records : step s = .next (State.errorRecorded { s with words := rest } code)) :
    t.cmdErr = true ∧ t.errCause = code := by
  cases run.symm.trans records
  simp [State.errorRecorded, noError]

/-- Settles O14: the three classes of words record their own codes, and a word of none of them keeps the record. -/
theorem causePriorityWithinOneWord : Obligations.CausePriorityWithinOneWord := by
  intro s t w rest hw noError run
  obtain ⟨illegalOp, reservedSet⟩ := rejectedWordsAreOnlyRecorded s w rest hw
  refine ⟨fun illegal => ?_, fun _ reserved => ?_, fun _ _ bad => ?_, fun legal clear known => ?_⟩
  · exact record_of_step_errorRecorded noError run (illegalOp illegal)
  · exact record_of_step_errorRecorded noError run (reservedSet reserved)
  · exact record_of_step_errorRecorded noError run (step_of_badRegister hw bad)
  · obtain ⟨cmdErr, errCause⟩ := step_sameRecord_of_no_cause hw legal clear known run
    exact ⟨cmdErr.trans noError, errCause⟩

end Sys2Proof
end

section
/-! Reset (R260): the reset state is a constant but for DUTY, which takes its value from the configuration. -/

namespace Sys2Proof.Machine

/-- R9 keeps DUTY_INIT within DUTY's 16 bits, so reset stores it whole. -/
theorem resetWith_duty_toNat {c : Cfg} (admitted : cfgAdmitted c = true) :
    ((State.resetWith c).duty.toNat : Int) = c.dutyInit := by
  obtain ⟨-, -, -, -, -, -, -, low, high, -, -⟩ := (cfgAdmitted_iff c).mp admitted
  have stored : (State.resetWith c).duty.toNat = (c.dutyInit % 65536).toNat := BitVec.toNat_ofInt ..
  omega

/-- No command error, no sample and no overflow are pending after reset (R38). -/
theorem flagsValue_resetWith (c : Cfg) : flagsValue (State.resetWith c) = 0 := by
  rw [flagsValue_eq_ofInt_registerInt]
  rfl

/-- Settles O1: every register but DUTY resets to a constant, and DUTY to the configuration's DUTY_INIT. -/
theorem resetLoadsTheResetValues : Obligations.ResetLoadsTheResetValues := by
  rintro c admitted _ rfl
  have duty := resetWith_duty_toNat admitted
  have flags := flagsValue_resetWith c
  exact ⟨rfl, rfl, rfl, rfl, rfl, rfl, rfl, rfl, rfl, rfl, rfl, duty, rfl, rfl, rfl, rfl, rfl, rfl, rfl, rfl, flags⟩

end Sys2Proof.Machine
end

section
/-! The decoder and the encoder are inverse to each other (R70 to R79): a word is the number its opcode and its operands
make, so where the reserved bits are 0 the opcode and the operands give the word back. -/

namespace Sys2Proof

open Machine

theorem fieldCold_toNat (w : Word) : (fieldCold w).toNat = w.toNat % 2 := by
  rw [fieldCold, BitVec.getLsbD, Nat.toNat_testBit, pow_zero, Nat.div_one]

theorem fieldLost_toNat (w : Word) : (fieldLost w).toNat = w.toNat / 2 % 2 := by
  rw [fieldLost, BitVec.getLsbD, Nat.toNat_testBit, pow_one]

/-- The word of a decoded transaction is given back by its opcode, its zero reserved bits and its operands. -/
theorem eq_encode_of_decode {w : Word} {i : Instr} (h : decode w = .instr i) : w = encode i := by
  apply BitVec.eq_of_toNat_eq
  obtain ⟨-, e⟩ | ⟨op, e⟩ | ⟨op, e⟩ | ⟨op, e⟩ | ⟨op, e⟩ | ⟨op, e⟩ := decode_cases w <;> rw [e] at h
  · cases h
  all_goals
    obtain ⟨clear, rfl⟩ := unlessReserved_eq_instr.mp h
    rw [extract_eq_zero_iff] at clear
  · rw [show (encode .ovf).toNat = 0x10000000 from rfl]
    omega
  · rw [show (encode .wrap).toNat = 0x20000000 from rfl]
    omega
  · rw [encode_edge_toNat, fieldC_toNat]
    omega
  · rw [encode_pass_toNat, fieldCold_toNat, fieldLost_toNat]
    omega
  · rw [encode_rdreg_toNat, fieldReg_toNat]
    omega

theorem decode_encode_edge (c : BitVec 16) : decode (encode (.edge c)) = .instr (.edge c) := by
  have number := encode_edge_toNat c
  obtain ⟨illegal, -⟩ | ⟨op, -⟩ | ⟨op, -⟩ | ⟨-, e⟩ | ⟨op, -⟩ | ⟨op, -⟩ := decode_cases (encode (.edge c))
  case inr.inr.inr.inl =>
    have operand : fieldC (encode (.edge c)) = c := by
      apply BitVec.eq_of_toNat_eq
      rw [fieldC_toNat]
      omega
    rw [e, unlessReserved_eq_instr, extract_eq_zero_iff, operand]
    exact ⟨by omega, rfl⟩
  all_goals omega

theorem decode_encode (i : Instr) : decode (encode i) = .instr i := by
  cases i with
  | ovf => rfl
  | wrap => rfl
  | edge c => exact decode_encode_edge c
  | pass cold lost => cases cold <;> cases lost <;> rfl
  | rdreg reg => revert reg; decide

theorem wellFormed_eq_true (i : Instr) : i.wellFormed = true := by
  cases i with
  | ovf => exact Laws.TableRow.ovf.2
  | wrap => exact Laws.TableRow.wrap.2
  | edge c => exact (Laws.TableRow.edge c).2
  | pass cold lost => exact (Laws.TableRow.pass cold lost).2
  | rdreg reg => exact (Laws.TableRow.rdreg reg).2

/-- Settles O5: the decoder inverts the encoder, and the word of what it decodes is the word it was given. -/
theorem decodeInvertsEncode : Obligations.DecodeInvertsEncode :=
  ⟨fun i => ⟨wellFormed_eq_true i, decode_encode i⟩, fun _ _ => eq_encode_of_decode⟩

theorem unlessReserved_ne_badRegister {n : Nat} {rsv : BitVec n} {i : Instr} :
    unlessReserved rsv i ≠ .rejected .badRegister := by
  unfold unlessReserved
  split <;> simp

theorem decode_ne_badRegister (w : Word) : decode w ≠ .rejected .badRegister := by
  obtain ⟨-, e⟩ | ⟨-, e⟩ | ⟨-, e⟩ | ⟨-, e⟩ | ⟨-, e⟩ | ⟨-, e⟩ := decode_cases w <;> rw [e]
  · simp
  all_goals exact unlessReserved_ne_badRegister

/-- Every word falls under one of three heads (R78, R79): an undefined OP, a set reserved bit, or neither, and only the
first two are rejected. -/
theorem decode_trichotomy (w : Word) :
    (IllegalOpWord w ∧ ¬ ReservedSetWord w ∧ decode w = .rejected .illegalOp)
      ∨ (¬ IllegalOpWord w ∧ ReservedSetWord w ∧ decode w = .rejected .reservedNonzero)
      ∨ (¬ IllegalOpWord w ∧ ¬ ReservedSetWord w ∧ ∃ i, decode w = .instr i) := by
  by_cases illegal : IllegalOpWord w
  · exact .inl ⟨illegal, by omega, decode_of_illegalOp illegal⟩
  · by_cases reserved : ReservedSetWord w
    · exact .inr (.inl ⟨illegal, reserved, decode_of_reservedSet reserved⟩)
    · exact .inr (.inr ⟨illegal, reserved, decode_of_accepted illegal reserved⟩)

/-- Settles O8: the three heads of words are disjoint, and each decodes in its own way. -/
theorem decodeRejectsExactlyR79 : Obligations.DecodeRejectsExactlyR79 := by
  refine fun w => ⟨?_, ?_, decode_ne_badRegister w⟩
  all_goals
    obtain ⟨illegal, reserved, e⟩ | ⟨illegal, reserved, e⟩ | ⟨illegal, reserved, _, e⟩ := decode_trichotomy w <;>
    simp only [e, illegal, reserved, reduceCtorEq, Decoded.rejected.injEq]

/-- Settles O9: each word is given to the decoder. -/
theorem sampleWordsDecode : Obligations.SampleWordsDecode :=
  ⟨rfl, rfl, rfl, rfl, rfl, rfl⟩

/-- Concatenation is the high part in its place, with the low part in the bits below it. -/
theorem append_eq_or_setWidth {m n : Nat} (x : BitVec m) (y : BitVec n) :
    x ++ y = (x ++ 0#n) ||| y.setWidth (m + n) := by
  have fits : y.toNat < 2 ^ (m + n) := lt_of_lt_of_le y.isLt (Nat.pow_le_pow_right (by decide) (by omega))
  apply BitVec.eq_of_toNat_eq
  simp [BitVec.toNat_append, Nat.mod_eq_of_lt fits]

/-- Settles O6: the encoder's concatenations put each operand below its opcode's constant. -/
theorem wordsFollowTheLayout : Obligations.WordsFollowTheLayout :=
  ⟨rfl, rfl, append_eq_or_setWidth 0x3000#16, by decide, append_eq_or_setWidth 0x2800000#27⟩

end Sys2Proof
end

section
/-! Launch and reset states (R9, R260, I17 to I19): a launch answers the state or a refusal, and the reset state of an
admitted configuration is legal. -/

namespace Sys2Proof.Machine

/-- A launch changes nothing: it takes the state as it is, or refuses it. -/
theorem launch_cases (s : State) : launch s = .next s ∨ ∃ r, launch s = .refused r := by
  unfold launch
  split_ifs
  case neg => exact .inl rfl
  all_goals exact .inr ⟨_, rfl⟩

theorem duty_ne_zero_iff (d : BitVec 16) : d ≠ 0 ↔ d.toNat ≠ 0 :=
  not_congr ⟨fun zero => by rw [zero]; rfl, fun zero => BitVec.eq_of_toNat_eq zero⟩

/-- Each check of a launch is one of the bounds, so that it takes exactly the states within all of them. -/
theorem launch_eq_next_iff {s : State} (admitted : cfgAdmitted s.cfg = true) :
    launch s = .next s ↔
      1 ≤ s.countAdd.toNat ∧ s.countAdd.toNat ≤ 65536 ∧ s.duty ≠ 0 ∧ -5 ≤ s.winCnt.toInt ∧ s.winCnt.toInt ≤ 60
        ∧ s.lockCnt.toNat ≤ 5 ∧ s.errCause.toNat ≤ 3 := by
  rw [launch, if_neg (by rw [admitted]; decide), duty_ne_zero_iff]
  split_ifs
  case neg => exact iff_of_true rfl (by omega)
  all_goals exact iff_of_false nofun (by omega)

/-- Settles O4: a launch takes the states within the bounds of its checks, and codes 12 to 15 name no mode. -/
theorem launchTakesExactlyLegalRegisters : Obligations.LaunchTakesExactlyLegalRegisters := by
  refine ⟨fun s admitted => ⟨launch_eq_next_iff admitted, (launch_cases s).resolve_left⟩, fun code s unnamed => ?_⟩
  rw [launchMode, modeOfCode_eq_none.mpr unnamed]

theorem legal_resetWith {c : Cfg} (admitted : cfgAdmitted c = true) (ws : List Word) :
    State.Legal { State.resetWith c with words := ws } where
  cfg := admitted
  countAdd := (by decide : 1 ≤ (65536#17).toNat ∧ (65536#17).toNat ≤ 65536)
  duty := by
    obtain ⟨-, -, -, -, -, -, -, low, -, -, -⟩ := (cfgAdmitted_iff c).mp admitted
    have stored := resetWith_duty_toNat admitted
    show 1 ≤ (State.resetWith c).duty.toNat
    omega
  winCnt := (by decide : -5 ≤ (0#32).toInt ∧ (0#32).toInt ≤ 60)
  lockCnt := (by decide : (0#8).toNat ≤ 5)
  lockOpen := by rintro (h | h) <;> cases h
  errCause := (by decide : (0#4).toNat ≤ 3)
  errRecord := (by decide : false = true ↔ 0#4 ≠ 0)

/-- START counts with no register. -/
theorem windowPhase_resetWith (c : Cfg) (ws : List Word) :
    State.WindowPhase { State.resetWith c with words := ws } where
  fastWait h := by cases h
  fast h := by cases h
  slowInit h := by cases h
  slow h := by cases h

/-- Settles O2: the example configuration is one of the admitted ones. -/
theorem resetStatesAreLegal : Obligations.ResetStatesAreLegal :=
  ⟨⟨legal_resetWith (c := Config.exampleCfg) (by decide) [], windowPhase_resetWith Config.exampleCfg []⟩,
    fun c ws admitted => ⟨legal_resetWith admitted ws, windowPhase_resetWith c ws⟩⟩

/-- Settles O54: an admitted configuration's table shows ACQUIRING in both modes. -/
theorem statusShowsAcquiring : Obligations.StatusShowsAcquiring := by
  intro s admitted hm
  obtain ⟨-, -, -, -, -, -, -, -, -, fastWait, fast⟩ := (cfgAdmitted_iff s.cfg).mp admitted
  obtain hm | hm := hm <;> rw [statusOutput, hm]
  · exact fastWait
  · exact fast

end Sys2Proof.Machine
end

section
/-! What a step can change: every transaction answers a next state, a transaction other than PASS writes no register of
the main loop, and what issuing a word, a transaction and a recorded error each keep is kept by steps and by runs. -/

namespace Sys2Proof.Machine

theorem exec_answers_next (i : Instr) (s : State) : ∃ t, exec i s = .next t := by
  cases i with
  | ovf => exact ⟨_, rfl⟩
  | wrap =>
    cases pending : s.ovfPend with
    | true => exact ⟨_, exec_wrap_of_pending pending⟩
    | false => exact ⟨_, exec_wrap_of_idle pending⟩
  | edge c => exact ⟨_, rfl⟩
  | pass cold lost => exact ⟨_, rfl⟩
  | rdreg reg =>
    cases name : regName reg with
    | none => exact ⟨_, exec_rdreg_of_unassigned name s⟩
    | some r => exact ⟨_, exec_rdreg_of_name name s⟩

theorem step_answers_next (s : State) : ∃ t, step s = .next t := by
  obtain ⟨-, e⟩ | ⟨_, _, i, -, -, e⟩ | ⟨_, _, _, -, -, e⟩ := step_cases s <;> rw [e]
  · exact ⟨_, rfl⟩
  · exact exec_answers_next i _
  · exact ⟨_, rfl⟩

/-- Settles O12: the step's own equations. -/
theorem stepRunsTheDecodedTransaction : Obligations.StepRunsTheDecodedTransaction :=
  ⟨fun _ _ _ _ hw hd => by rw [step_of_cons hw, issueWord_of_instr hd], fun _ => step_of_empty⟩

/-- Settles O59: every transaction answers a next state, and so every step. -/
theorem noTransactionStopsTheBlock : Obligations.NoTransactionStopsTheBlock :=
  ⟨step_answers_next, exec_answers_next⟩

/-- The state with everything that a transaction other than PASS may write blanked. Two states that agree here agree in
every other field. -/
def State.withoutEvents (s : State) : State :=
  { s with
    trace := []
    count := 0
    countAdd := 0
    ovfPend := false
    sample := 0
    ppsMiss := 0
    cmdErr := false
    errCause := 0 }

/-- R43: the event transactions and RDREG write no register of the main loop. -/
theorem exec_withoutEvents {i : Instr} {s t : State} (notPass : ∀ cold lost, i ≠ .pass cold lost)
    (run : exec i s = .next t) : t.withoutEvents = s.withoutEvents := by
  cases i with
  | ovf => cases run; rfl
  | wrap =>
    cases pending : s.ovfPend with
    | true => rw [exec_wrap_of_pending pending] at run; cases run; rfl
    | false => rw [exec_wrap_of_idle pending] at run; cases run; rfl
  | edge c => cases run; rfl
  | pass cold lost => exact absurd rfl (notPass cold lost)
  | rdreg reg =>
    cases name : regName reg with
    | none => rw [exec_rdreg_of_unassigned name] at run; cases run; rfl
    | some r => rw [exec_rdreg_of_name name] at run; cases run; rfl

/-- Every transaction is a PASS, or writes no register of the main loop. -/
theorem exec_pass_or_withoutEvents {i : Instr} {s t : State} (run : exec i s = .next t) :
    (∃ cold lost, i = .pass cold lost) ∨ t.withoutEvents = s.withoutEvents := by
  by_cases isPass : ∃ cold lost, i = .pass cold lost
  · exact .inl isPass
  · exact .inr (exec_withoutEvents (fun cold lost e => isPass ⟨cold, lost, e⟩) run)

/-- Settles O20: each of the registers stands in what such a transaction does not write. -/
theorem onlyPassWritesPrivateRegisters : Obligations.OnlyPassWritesPrivateRegisters := by
  intro i s t notPass run
  have frame := exec_withoutEvents notPass run
  simp only [State.withoutEvents, State.mk.injEq] at frame
  tauto

theorem exec_keeps_cfg_words {i : Instr} {s t : State} (run : exec i s = .next t) :
    t.cfg = s.cfg ∧ t.words = s.words := by
  obtain ⟨cold, lost, rfl⟩ | frame := exec_pass_or_withoutEvents run
  · obtain ⟨u, answer, frame⟩ := exec_pass_withoutControl cold lost s
    cases run.symm.trans answer
    exact ⟨(congrArg State.cfg frame).trans (snapped_cfg s), (congrArg State.words frame).trans (snapped_words s)⟩
  · have cfg := congrArg State.cfg frame
    have words := congrArg State.words frame
    exact ⟨cfg, words⟩

/-- A step keeps what taking a word, a transaction and a recorded error each keep. -/
theorem step_keeps {P : State → Prop} (taken : ∀ s rest, P s → P { s with words := rest })
    (executed : ∀ i s t, P s → exec i s = .next t → P t) (rejected : ∀ cause s, P s → P (raiseCmdError cause s))
    {s t : State} (hs : P s) (run : step s = .next t) : P t := by
  obtain ⟨-, e⟩ | ⟨_, rest, i, -, -, e⟩ | ⟨_, rest, cause, -, -, e⟩ := step_cases s <;> rw [e] at run
  · cases run; exact hs
  · exact executed i _ t (taken s rest hs) run
  · cases run; exact rejected cause _ (taken s rest hs)

theorem run_succ {s t : State} (run : step s = .next t) (k : Nat) :
    Sys2Proof.core.run (k + 1) s = Sys2Proof.core.run k t := by
  have taken : Sys2Proof.core.step s = .next t := run
  simp only [Host.Core.run, taken]

/-- A run keeps what every step keeps. -/
theorem run_keeps {P : State → Prop} (stepped : ∀ s t, P s → step s = .next t → P t) :
    ∀ {k : Nat} {s t : State}, P s → Sys2Proof.core.run k s = .next t → P t
  | 0, _, _, hs, run => by cases run; exact hs
  | k + 1, s, t, hs, run => by
    obtain ⟨u, e⟩ := step_answers_next s
    rw [run_succ e] at run
    exact run_keeps stepped (stepped s u hs e) run

/-- Settles O26: the configuration and the waiting words are no transaction's to write, and the record only RDREG's. -/
theorem transactionsKeepConfigurationAndRecord : Obligations.TransactionsKeepConfigurationAndRecord := by
  refine ⟨fun s t run => ?_, fun i s t => exec_keeps_cfg_words, fun i s t notRdreg run => ?_⟩
  · exact step_keeps (P := fun u => u.cfg = s.cfg) (fun _ _ h => h) (fun _ _ _ h e => (exec_keeps_cfg_words e).1.trans h)
      (fun _ _ h => h) rfl run
  · exact exec_sameRecord (fun reg e => absurd e (notRdreg reg)) run

/-- With CMDERR set, recording an error changes nothing (R241). -/
theorem raiseCmdError_of_cmdErr {s : State} (recorded : s.cmdErr = true) (cause : CmdCause) :
    raiseCmdError cause s = s := by
  simp only [raiseCmdError, recorded, if_true]
  rw [← recorded]

theorem exec_sameRecord_of_cmdErr {i : Instr} {s t : State} (recorded : s.cmdErr = true) (run : exec i s = .next t) :
    t.SameRecord s := by
  by_cases assigned : ∀ reg, i = .rdreg reg → reg.toNat < 19
  · exact exec_sameRecord assigned run
  · push Not at assigned
    obtain ⟨reg, rfl, unassigned⟩ := assigned
    rw [exec_rdreg_of_unassigned (regName_eq_none.mpr unassigned), raiseCmdError_of_cmdErr recorded] at run
    cases run
    exact ⟨rfl, rfl⟩

/-- An error is recorded, and its code is the given one. -/
def State.HasRecord (s : State) (code : BitVec 4) : Prop := s.cmdErr = true ∧ s.errCause = code

theorem exec_keeps_hasRecord {code : BitVec 4} {i : Instr} {s t : State} (h : s.HasRecord code)
    (run : exec i s = .next t) : t.HasRecord code := by
  obtain ⟨recorded, cause⟩ := h
  obtain ⟨cmdErr, errCause⟩ := exec_sameRecord_of_cmdErr recorded run
  exact ⟨cmdErr.trans recorded, errCause.trans cause⟩

theorem step_keeps_hasRecord {code : BitVec 4} {s t : State} (h : s.HasRecord code) (run : step s = .next t) :
    t.HasRecord code :=
  step_keeps (P := fun u => u.HasRecord code) (fun _ _ h => h) (fun _ _ _ => exec_keeps_hasRecord)
    (fun cause _ h => by rwa [raiseCmdError_of_cmdErr h.1]) h run

/-- Settles O15: a set record is kept by every transaction and by every further error, and so by every run. -/
theorem commandErrorRecordIsSticky : Obligations.CommandErrorRecordIsSticky :=
  fun _ s _ run recorded =>
    run_keeps (P := fun u => u.HasRecord s.errCause) (fun _ _ => step_keeps_hasRecord) ⟨recorded, rfl⟩ run

end Sys2Proof.Machine
end

section
/-! What a handler can do (R142 to R184), said once: each kind of move with the condition it is made under. -/

namespace Sys2Proof.Machine

/-- The detection predicate that a fault mode recovers by (R145 to R148); no other mode has one. -/
def detectFault : Mode → PassInputs → Bool
  | .oscCold => detectOscCold
  | .noGpsLock => detectNoGpsLock
  | .noGpsPps => detectNoGpsPps
  | .noOscClock => detectNoOscClock
  | _ => fun _ => false

/-- Everything a handler may do to a state. `e`, `pTerm` and `iTerm` are the values of the window report, and `a` is the
applied adjustment; `fastClose_cases` and `slowClose_cases` give them. -/
inductive HandlerMove (p : PassInputs) (s : State) : State → Prop where
  | advances (m : Mode) (hm : (s.mode, m) ∈ [(Mode.start, Mode.good), (.checkErrors, .good), (.good, .fastInit)]) :
      HandlerMove p s { s with mode := m }
  | persists (faultMode : isFaultMode s.mode = true) (detected : detectFault s.mode p = true) : HandlerMove p s s
  | recovers (faultMode : isFaultMode s.mode = true) : HandlerMove p s { s with mode := .checkErrors }
  | waits (gated : isPpsGated s.mode = true) : HandlerMove p s s
  | startsSettle (hm : s.mode = .fastInit) :
      HandlerMove p s { s with winCnt := BitVec.ofInt 32 (-5), lockCnt := 0, mode := .fastWait }
  | opensWindow (hm : s.mode = .fastWait) (expired : 0 ≤ s.winCnt.toInt + 1) :
      HandlerMove p s { s with winSum := 0, winCnt := 0, mode := .fast }
  | settles (hm : s.mode = .fastWait ∧ s.winCnt.toInt + 1 < 0 ∨ (s.mode = .fast ∨ s.mode = .slow) ∧ s.winCnt.toInt < 0) :
      HandlerMove p s { s with winCnt := BitVec.ofInt 32 (s.winCnt.toInt + 1) }
  | accumulates (hm : s.mode = .fast ∧ s.winCnt.toInt + 1 < 8 ∨ s.mode = .slow ∧ s.winCnt.toInt + 1 < 60)
      (opened : 0 ≤ s.winCnt.toInt) (sum : BitVec 64) :
      HandlerMove p s { s with winSum := sum, winCnt := BitVec.ofInt 32 (s.winCnt.toInt + 1) }
  | locks (hm : s.mode = .fast) (counted : 5 ≤ (BitVec.ofInt 8 ((s.lockCnt.toNat : Int) + 1)).toNat) (e : Int) :
      HandlerMove p s (State.reported
        { s with winSum := 0, winCnt := 0, lockCnt := BitVec.ofInt 8 ((s.lockCnt.toNat : Int) + 1), mode := .slowInit }
        e 0 0 0)
  | reportsFast (hm : s.mode = .fast) (lock : BitVec 8) (unlocked : lock.toNat < 5) (e pTerm : Int) :
      HandlerMove p s (State.reported { s with winSum := 0, winCnt := 0, lockCnt := lock } e pTerm 0 0)
  | adjustsFast (hm : s.mode = .fast) (full : 7 ≤ s.winCnt.toInt) (ready : p.ready = true) (lock : BitVec 8)
      (unlocked : lock.toNat < 5) (e pTerm a : Int) (nonzero : a ≠ 0) (bounds : -32000 ≤ a ∧ a ≤ 32000) :
      HandlerMove p s
        (State.reported (State.adjusted { s with winSum := 0, winCnt := 0, lockCnt := lock } a) e pTerm 0 a)
  | startsTracking (hm : s.mode = .slowInit) :
      HandlerMove p s { s with winSum := 0, winCnt := 0, iHist := 0, minNoAdj := 0, mode := .slow }
  | demotes (hm : s.mode = .slow) (e : Int) :
      HandlerMove p s (State.reported { s with winSum := 0, winCnt := 0, mode := .fastInit } e 0 0 0)
  | reportsSlow (hm : s.mode = .slow) (hist noAdj : BitVec 32) (e pTerm iTerm : Int) :
      HandlerMove p s
        (State.reported { s with winSum := 0, winCnt := 0, iHist := hist, minNoAdj := noAdj } e pTerm iTerm 0)
  | adjustsSlow (hm : s.mode = .slow) (full : 59 ≤ s.winCnt.toInt) (ready : p.ready = true) (hist : BitVec 32)
      (e pTerm iTerm a : Int) (nonzero : a ≠ 0) (bounds : -32000 ≤ a ∧ a ≤ 32000) :
      HandlerMove p s
        (State.reported (State.adjusted { s with winSum := 0, winCnt := 0, iHist := hist, minNoAdj := 0 } a)
          e pTerm iTerm a)

theorem handler_of_isFaultMode {s : State} (h : isFaultMode s.mode = true) (p : PassInputs) :
    handler p s = recoverUnless (detectFault s.mode p) s := by
  cases hm : s.mode <;> simp only [hm, isFaultMode, Bool.false_eq_true] at h
  all_goals
    simp only [handler, hm]
    rfl

theorem recoverUnless_move {p : PassInputs} {s : State} (h : isFaultMode s.mode = true) :
    HandlerMove p s (recoverUnless (detectFault s.mode p) s) := by
  cases detected : detectFault s.mode p with
  | true => exact .persists h detected
  | false => exact .recovers h

theorem fastAdjust_move {p : PassInputs} {s : State} (hm : s.mode = .fast) (full : 7 ≤ s.winCnt.toInt)
    (ready : p.ready = true) {lock : BitVec 8} (unlocked : lock.toNat < 5) (error : Int) :
    HandlerMove p s (fastAdjust error { s with winSum := 0, winCnt := 0, lockCnt := lock }) := by
  obtain ⟨pTerm, _, -, rfl, ⟨nonzero, e⟩ | ⟨-, e⟩⟩ :=
    fastAdjust_cases error { s with winSum := 0, winCnt := 0, lockCnt := lock } <;> rw [e]
  · exact .adjustsFast hm full ready lock unlocked error pTerm _ nonzero (clampAdjust_bounds pTerm)
  · exact .reportsFast hm lock unlocked error pTerm

theorem fastClose_move {p : PassInputs} {s : State} (hm : s.mode = .fast) (full : 7 ≤ s.winCnt.toInt)
    (ready : p.ready = true) (error : Int) :
    HandlerMove p s (fastClose error { s with winSum := 0, winCnt := 0 }) := by
  obtain ⟨-, counted, e⟩ | ⟨-, unlocked, e⟩ | ⟨-, e⟩ := fastClose_cases error { s with winSum := 0, winCnt := 0 } <;> rw [e]
  · exact .locks hm counted error
  · exact fastAdjust_move hm full ready unlocked error
  · exact fastAdjust_move hm full ready (by decide) error

theorem slowClose_move {p : PassInputs} {s : State} (hm : s.mode = .slow) (full : 59 ≤ s.winCnt.toInt)
    (ready : p.ready = true) (error : Int) :
    HandlerMove p s (slowClose error { s with winSum := 0, winCnt := 0 }) := by
  obtain ⟨-, e⟩ | ⟨-, pTerm, iTerm, _, -, -, rfl, ⟨nonzero, e⟩ | ⟨-, e⟩⟩ :=
    slowClose_cases error { s with winSum := 0, winCnt := 0 } <;> rw [e]
  · exact .demotes hm error
  · exact .adjustsSlow hm full ready _ error pTerm iTerm _ nonzero (clampAdjust_bounds _)
  · exact .reportsSlow hm _ _ error pTerm iTerm

theorem handleFastWait_move {p : PassInputs} {s : State} (hm : s.mode = .fastWait) (ready : p.ready = true) :
    HandlerMove p s (handleFastWait p s) := by
  simp only [handleFastWait, ready, if_true]
  split_ifs with expired
  · exact .opensWindow hm expired
  · exact .settles (.inl ⟨hm, by omega⟩)

theorem handleFast_move {p : PassInputs} {s : State} (hm : s.mode = .fast) (ready : p.ready = true) :
    HandlerMove p s (handleFast p s) := by
  rw [handleFast, if_pos ready]
  obtain ⟨settling, e⟩ | ⟨opened, room, e⟩ | ⟨-, full, e⟩ := windowStep_cases Config.sampleSeconds p.sample s <;>
    simp only [e]
  · exact .settles (.inr ⟨.inl hm, settling⟩)
  · exact .accumulates (.inl ⟨hm, room⟩) opened _
  · exact fastClose_move hm (by rw [config_sampleSeconds] at full; omega) ready _

theorem handleSlow_move {p : PassInputs} {s : State} (hm : s.mode = .slow) (ready : p.ready = true) :
    HandlerMove p s (handleSlow p s) := by
  rw [handleSlow, if_pos ready]
  obtain ⟨settling, e⟩ | ⟨opened, room, e⟩ | ⟨-, full, e⟩ := windowStep_cases Config.sampleMinute p.sample s <;>
    simp only [e]
  · exact .settles (.inr ⟨.inr hm, settling⟩)
  · exact .accumulates (.inr ⟨hm, room⟩) opened _
  · exact slowClose_move hm (by rw [config_sampleMinute] at full; omega) ready _

theorem handler_move_of_ready {p : PassInputs} {s : State} (gated : isPpsGated s.mode = true) (ready : p.ready = true) :
    HandlerMove p s (handler p s) := by
  cases hm : s.mode <;> simp only [hm, isPpsGated, Bool.false_eq_true] at gated <;> simp only [handler, hm]
  case fastInit => rw [handleFastInit, if_pos ready]; exact .startsSettle hm
  case fastWait => exact handleFastWait_move hm ready
  case fast => exact handleFast_move hm ready
  case slowInit => rw [handleSlowInit, if_pos ready]; exact .startsTracking hm
  case slow => exact handleSlow_move hm ready

theorem handler_move (p : PassInputs) (s : State) : HandlerMove p s (handler p s) := by
  by_cases faultMode : isFaultMode s.mode = true
  · rw [handler_of_isFaultMode faultMode]
    exact recoverUnless_move faultMode
  by_cases gated : isPpsGated s.mode = true
  · cases ready : p.ready with
    | true => exact handler_move_of_ready gated ready
    | false => rw [handler_of_isPpsGated_of_not_ready gated ready]; exact .waits gated
  cases hm : s.mode <;> simp only [hm, isFaultMode, isPpsGated, not_true_eq_false] at faultMode gated <;>
    simp only [handler, hm]
  case start => exact .advances .good (by rw [hm]; decide)
  case checkErrors => exact .advances .good (by rw [hm]; decide)
  case good => exact .advances .fastInit (by rw [hm]; decide)

/-- What a PASS does after its phase 1: it enters a fault mode, or its mode's handler makes a move. -/
theorem exec_pass_cases {cold lost : Bool} {s t : State} (run : exec (.pass cold lost) s = .next t) :
    (∃ m, faultEntry (passInputs cold lost s) s.mode = some m ∧ t = { s.snapped with mode := m })
      ∨ HandlerMove (passInputs cold lost s) s.snapped t := by
  cases run
  rw [passPhaseOne_eq]
  obtain ⟨m, entry, e⟩ | ⟨-, e⟩ := passPhasesTwoThree_cases (passInputs cold lost s) s.snapped <;> rw [e]
  · rw [snapped_mode] at entry
    exact .inl ⟨m, entry, rfl⟩
  · exact .inr (handler_move _ _)

end Sys2Proof.Machine
end

section
/-! The two invariants of the registers: every move of a handler, every other transaction and every recorded error keeps
the legal ranges (`State.Legal`) and what each mode counts with (`State.WindowPhase`). -/

namespace Sys2Proof.Machine

theorem toInt_ofInt_32 {a : Int} (lo : -2 ^ 31 ≤ a) (hi : a < 2 ^ 31) : (BitVec.ofInt 32 a).toInt = a :=
  toInt_ofInt_of_range (by decide) lo hi

theorem one_le_adjusted_duty (s : State) (a : Int) : 1 ≤ (s.adjusted a).duty.toNat := by
  show 1 ≤ (BitVec.ofInt 16 (max 1 (min 65535 ((s.duty.toNat : Int) + a)))).toNat
  rw [BitVec.toNat_ofInt]
  omega

/-- R33 and R35, R37: every move counts within the legal ranges, clears, or starts a settle. -/
theorem legal_of_handlerMove {p : PassInputs} {s t : State} (legal : s.Legal) (move : HandlerMove p s t) : t.Legal := by
  have ⟨low, high⟩ := legal.winCnt
  have cleared : -5 ≤ (0#32).toInt ∧ (0#32).toInt ≤ 60 := by decide
  have settling : -5 ≤ (BitVec.ofInt 32 (-5)).toInt ∧ (BitVec.ofInt 32 (-5)).toInt ≤ 60 := by decide
  have skipping : -5 ≤ (BitVec.ofInt 32 (-1)).toInt ∧ (BitVec.ofInt 32 (-1)).toInt ≤ 60 := by decide
  have counted (room : s.winCnt.toInt < 60) : -5 ≤ (BitVec.ofInt 32 (s.winCnt.toInt + 1)).toInt
      ∧ (BitVec.ofInt 32 (s.winCnt.toInt + 1)).toInt ≤ 60 := by
    rw [toInt_ofInt_32] <;> omega
  have noLock (m : Mode) (other : ¬ (m = .fastWait ∨ m = .fast)) {n : Nat} : m = .fastWait ∨ m = .fast → n ≤ 4 :=
    fun h => absurd h other
  cases move with
  | advances m hm =>
    refine { legal with lockOpen := noLock m ?_ }
    rintro (rfl | rfl) <;> simp at hm
  | persists | waits => exact legal
  | recovers => exact { legal with lockOpen := noLock .checkErrors (by decide) }
  | startsSettle =>
    have zero : (0#8).toNat ≤ 4 := by decide
    exact { legal with winCnt := settling, lockCnt := zero.trans (by decide), lockOpen := fun _ => zero }
  | opensWindow hm => exact { legal with winCnt := cleared, lockOpen := fun _ => legal.lockOpen (.inl hm) }
  | settles hm => exact { legal with winCnt := counted (by omega) }
  | accumulates hm => exact { legal with winCnt := counted (by omega) }
  | locks hm =>
    have unlocked := legal.lockOpen (.inr hm)
    refine { legal with winCnt := cleared, lockCnt := ?_, lockOpen := noLock .slowInit (by decide) }
    exact (lockCnt_succ (by omega)).trans_le (by omega)
  | reportsFast _ lock unlocked =>
    exact { legal with winCnt := cleared, lockCnt := unlocked.le, lockOpen := fun _ => Nat.le_of_lt_succ unlocked }
  | adjustsFast _ _ _ lock unlocked =>
    exact { legal with
      winCnt := skipping
      lockCnt := unlocked.le
      lockOpen := fun _ => Nat.le_of_lt_succ unlocked
      duty := one_le_adjusted_duty _ _ }
  | startsTracking => exact { legal with winCnt := cleared, lockOpen := noLock .slow (by decide) }
  | demotes => exact { legal with winCnt := cleared, lockOpen := noLock .fastInit (by decide) }
  | reportsSlow => exact { legal with winCnt := cleared }
  | adjustsSlow => exact { legal with winCnt := skipping, duty := one_le_adjusted_duty _ _ }

/-- Phase 1 writes no register that `Legal` speaks of. -/
theorem legal_snapped {s : State} (legal : s.Legal) : s.snapped.Legal := by
  unfold State.snapped
  split
  · exact { legal with }
  · exact { legal with }

theorem legal_enterFaultMode {s : State} (legal : s.Legal) {m : Mode} (faultMode : isFaultMode m = true) :
    State.Legal { s with mode := m } :=
  { legal with lockOpen := by rintro (rfl | rfl) <;> cases faultMode }

/-- EDGE refills COUNTADD with what its counter value leaves of the period (R103). -/
theorem legal_edge {s : State} (legal : s.Legal) (c : BitVec 16) {t : State} (run : exec (.edge c) s = .next t) :
    t.Legal := by
  rw [exec_edge_eq] at run
  cases run
  refine { legal with countAdd := ?_ }
  show 1 ≤ (BitVec.ofNat 17 (65536 - c.toNat)).toNat ∧ (BitVec.ofNat 17 (65536 - c.toNat)).toNat ≤ 65536
  rw [BitVec.toNat_ofNat]
  omega

/-- The record holds a code of R242 exactly where an error is recorded. -/
theorem legal_raiseCmdError {s : State} (legal : s.Legal) (cause : CmdCause) : (raiseCmdError cause s).Legal := by
  cases recorded : s.cmdErr with
  | true => rwa [raiseCmdError_of_cmdErr recorded]
  | false =>
    have code : (raiseCmdError cause s).errCause = causeCode cause := by
      rw [raiseCmdError_errCause, recorded]
      rfl
    have known : (causeCode cause).toNat ≤ 3 ∧ causeCode cause ≠ 0 := by cases cause <;> decide
    exact { legal with
      errCause := code ▸ known.1
      errRecord := iff_of_true rfl (code ▸ known.2) }

theorem exec_keeps_legal {i : Instr} {s t : State} (legal : s.Legal) (run : exec i s = .next t) : t.Legal := by
  cases i with
  | ovf => cases run; exact { legal with }
  | wrap =>
    cases pending : s.ovfPend with
    | true =>
      rw [exec_wrap_of_pending pending] at run
      cases run
      exact { legal with countAdd := (by decide : 1 ≤ (65536#17).toNat ∧ (65536#17).toNat ≤ 65536) }
    | false => rw [exec_wrap_of_idle pending] at run; cases run; exact legal
  | edge c => exact legal_edge legal c run
  | pass cold lost =>
    obtain ⟨m, entry, rfl⟩ | move := exec_pass_cases run
    · exact legal_enterFaultMode (legal_snapped legal) (faultEntry_eq_some entry).2
    · exact legal_of_handlerMove (legal_snapped legal) move
  | rdreg reg =>
    cases name : regName reg with
    | none => rw [exec_rdreg_of_unassigned name] at run; cases run; exact legal_raiseCmdError legal _
    | some r => rw [exec_rdreg_of_name name] at run; cases run; exact { legal with }

/-- Settles O57: taking a word, every transaction and every recorded error keep the legal ranges. -/
theorem stepKeepsLegality : Obligations.StepKeepsLegality :=
  fun _ _ => step_keeps (P := State.Legal) (fun _ _ legal => { legal with }) (fun _ _ _ => exec_keeps_legal)
    (fun cause _ legal => legal_raiseCmdError legal cause)

/-- `State.WindowPhase` as a condition on MODE, WINCNT and LOCKCNT. -/
def PhaseBounds (mode : Mode) (winCnt : Int) (lockCnt : Nat) : Prop :=
  match mode with
  | .fastWait => -5 ≤ winCnt ∧ winCnt ≤ -1 ∧ lockCnt = 0
  | .fast => -1 ≤ winCnt ∧ winCnt ≤ 7 ∧ lockCnt ≤ 4
  | .slowInit => lockCnt = 5
  | .slow => -1 ≤ winCnt ∧ winCnt ≤ 59 ∧ lockCnt = 5
  | _ => True

theorem windowPhase_iff (s : State) : s.WindowPhase ↔ PhaseBounds s.mode s.winCnt.toInt s.lockCnt.toNat := by
  constructor
  · intro phase
    cases hm : s.mode
    case fastWait => exact phase.fastWait hm
    case fast => exact phase.fast hm
    case slowInit => exact phase.slowInit hm
    case slow => exact phase.slow hm
    all_goals exact trivial
  · intro bounds
    constructor <;> intro hm <;> rw [hm] at bounds <;> exact bounds

theorem phaseBounds_of_isFaultMode {m : Mode} (h : isFaultMode m = true) (winCnt : Int) (lockCnt : Nat) :
    PhaseBounds m winCnt lockCnt := by
  cases m
  case fastWait | fast | slowInit | slow => cases h
  all_goals exact trivial

/-- Every move counts within its mode's bounds, or starts the next mode's count (R162, R164, R167, R173, R175). -/
theorem windowPhase_of_handlerMove {p : PassInputs} {s t : State} (phase : s.WindowPhase) (move : HandlerMove p s t) :
    t.WindowPhase := by
  rw [windowPhase_iff] at phase ⊢
  have counted (low : -5 ≤ s.winCnt.toInt) (room : s.winCnt.toInt < 60) :
      (BitVec.ofInt 32 (s.winCnt.toInt + 1)).toInt = s.winCnt.toInt + 1 := by
    rw [toInt_ofInt_32] <;> omega
  cases move with
  | advances m hm =>
    show PhaseBounds m _ _
    cases m <;> simp at hm <;> exact trivial
  | persists | waits => exact phase
  | recovers => exact trivial
  | startsSettle =>
    show PhaseBounds .fastWait (-5) 0
    exact ⟨by decide, by decide, rfl⟩
  | opensWindow hm =>
    show PhaseBounds .fast 0 s.lockCnt.toNat
    rw [hm] at phase
    obtain ⟨-, -, zero⟩ := phase
    exact ⟨by decide, by decide, zero.le.trans (by decide)⟩
  | settles hm =>
    show PhaseBounds s.mode (BitVec.ofInt 32 (s.winCnt.toInt + 1)).toInt s.lockCnt.toNat
    obtain ⟨hm, settling⟩ | ⟨hm | hm, settling⟩ := hm
    all_goals
      rw [hm] at phase ⊢
      obtain ⟨low, -, lock⟩ := phase
      rw [counted (by omega) (by omega)]
      exact ⟨by omega, by omega, lock⟩
  | accumulates hm opened =>
    show PhaseBounds s.mode (BitVec.ofInt 32 (s.winCnt.toInt + 1)).toInt s.lockCnt.toNat
    obtain ⟨hm, room⟩ | ⟨hm, room⟩ := hm
    all_goals
      rw [hm] at phase ⊢
      obtain ⟨-, -, lock⟩ := phase
      rw [counted (by omega) (by omega)]
      exact ⟨by omega, by omega, lock⟩
  | locks hm fifth =>
    rw [hm] at phase
    obtain ⟨-, -, unlocked⟩ := phase
    rw [lockCnt_succ (by omega)] at fifth
    exact (lockCnt_succ (by omega)).trans (by omega)
  | reportsFast hm lock unlocked =>
    show PhaseBounds s.mode 0 lock.toNat
    rw [hm]
    exact ⟨by decide, by decide, Nat.le_of_lt_succ unlocked⟩
  | adjustsFast hm _ _ lock unlocked =>
    show PhaseBounds s.mode (-1) lock.toNat
    rw [hm]
    exact ⟨by decide, by decide, Nat.le_of_lt_succ unlocked⟩
  | startsTracking hm =>
    show PhaseBounds .slow 0 s.lockCnt.toNat
    rw [hm] at phase
    exact ⟨by decide, by decide, phase⟩
  | demotes => exact trivial
  | reportsSlow hm =>
    show PhaseBounds s.mode 0 s.lockCnt.toNat
    rw [hm] at phase ⊢
    obtain ⟨-, -, lock⟩ := phase
    exact ⟨by decide, by decide, lock⟩
  | adjustsSlow hm =>
    show PhaseBounds s.mode (-1) s.lockCnt.toNat
    rw [hm] at phase ⊢
    obtain ⟨-, -, lock⟩ := phase
    exact ⟨by decide, by decide, lock⟩

theorem windowPhase_snapped {s : State} (phase : s.WindowPhase) : s.snapped.WindowPhase := by
  rw [windowPhase_iff] at phase ⊢
  rwa [snapped_mode, snapped_winCnt, snapped_lockCnt]

theorem windowPhase_withoutEvents (s : State) : s.withoutEvents.WindowPhase ↔ s.WindowPhase :=
  ⟨fun phase => { phase with }, fun phase => { phase with }⟩

theorem exec_keeps_windowPhase {i : Instr} {s t : State} (phase : s.WindowPhase) (run : exec i s = .next t) :
    t.WindowPhase := by
  obtain ⟨cold, lost, rfl⟩ | frame := exec_pass_or_withoutEvents run
  · obtain ⟨m, entry, rfl⟩ | move := exec_pass_cases run
    · exact (windowPhase_iff _).mpr (phaseBounds_of_isFaultMode (faultEntry_eq_some entry).2 _ _)
    · exact windowPhase_of_handlerMove (windowPhase_snapped phase) move
  · rwa [← windowPhase_withoutEvents, frame, windowPhase_withoutEvents]

/-- Settles O58: every transaction keeps the phase, and a rejected word writes no register it speaks of. -/
theorem stepKeepsWindowPhase : Obligations.StepKeepsWindowPhase :=
  fun _ _ => step_keeps (P := State.WindowPhase) (fun _ _ phase => { phase with }) (fun _ _ _ => exec_keeps_windowPhase)
    (fun _ _ phase => { phase with })

end Sys2Proof.Machine
end

section
/-! Modes and faults (R141 to R149): a PASS takes MODE to a successor of the mode it was in, and to a fault mode only
where it detects that mode's fault. -/

namespace Sys2Proof.Machine

theorem mem_successors_of_isFaultMode {m m' : Mode} (source : isFaultMode m = false) (target : isFaultMode m' = true) :
    m' ∈ successors m := by
  revert source target
  cases m <;> cases m' <;> decide

theorem handlerMove_mode {p : PassInputs} {s t : State} (move : HandlerMove p s t) :
    t.mode = s.mode ∨ t.mode ∈ successors s.mode := by
  cases move with
  | advances m hm =>
    right
    show m ∈ successors s.mode
    cases hs : s.mode <;> simp [hs] at hm <;> simp [hm, successors]
  | persists | waits | settles | accumulates | reportsFast | adjustsFast | reportsSlow | adjustsSlow => exact .inl rfl
  | recovers faultMode =>
    right
    show Mode.checkErrors ∈ successors s.mode
    revert faultMode
    cases s.mode <;> decide
  | startsSettle hm => exact .inr (show Mode.fastWait ∈ successors s.mode by rw [hm]; decide)
  | opensWindow hm => exact .inr (show Mode.fast ∈ successors s.mode by rw [hm]; decide)
  | locks hm => exact .inr (show Mode.slowInit ∈ successors s.mode by rw [hm]; decide)
  | startsTracking hm => exact .inr (show Mode.slow ∈ successors s.mode by rw [hm]; decide)
  | demotes hm => exact .inr (show Mode.fastInit ∈ successors s.mode by rw [hm]; decide)

/-- Settles O36: only PASS writes MODE, by a fault entry or by a move of its mode's handler. -/
theorem modeMovesOnlyToSuccessors : Obligations.ModeMovesOnlyToSuccessors := by
  intro i s t run
  obtain ⟨cold, lost, rfl⟩ | frame := exec_pass_or_withoutEvents run
  · obtain ⟨m, entry, rfl⟩ | move := exec_pass_cases run
    · obtain ⟨source, target⟩ := faultEntry_eq_some entry
      exact .inr ⟨⟨cold, lost, rfl⟩, mem_successors_of_isFaultMode source target⟩
    · have moved := handlerMove_mode move
      rw [snapped_mode] at moved
      exact moved.imp_right fun h => ⟨⟨cold, lost, rfl⟩, h⟩
  · have mode := congrArg State.mode frame
    exact .inl mode

theorem detectFault_of_faultEntry {p : PassInputs} {m m' : Mode} (entry : faultEntry p m = some m') :
    detectFault m' p = true := by
  unfold faultEntry at entry
  split_ifs at entry <;> cases entry <;> assumption

theorem detectFault_of_handlerMove {p : PassInputs} {s t : State} (move : HandlerMove p s t)
    (faultMode : isFaultMode t.mode = true) : detectFault t.mode p = true := by
  cases move with
  | persists _ detected => exact detected
  | advances m hm =>
    change isFaultMode m = true at faultMode
    cases m <;> simp [isFaultMode] at faultMode hm
  | waits gated => rw [isPpsGated_of_isFaultMode faultMode] at gated; cases gated
  | recovers | startsSettle | opensWindow | locks | startsTracking | demotes => cases faultMode
  | settles hm =>
    change isFaultMode s.mode = true at faultMode
    obtain ⟨hm, -⟩ | ⟨hm | hm, -⟩ := hm <;> rw [hm] at faultMode <;> cases faultMode
  | accumulates hm => 
    change isFaultMode s.mode = true at faultMode
    obtain ⟨hm, -⟩ | ⟨hm, -⟩ := hm <;> rw [hm] at faultMode <;> cases faultMode
  | reportsFast hm | adjustsFast hm | reportsSlow hm | adjustsSlow hm =>
    change isFaultMode s.mode = true at faultMode
    rw [hm] at faultMode
    cases faultMode

/-- A PASS ends in a fault mode only where it detects that mode's fault, on entry or in its handler. -/
theorem detectFault_of_exec_pass {cold lost : Bool} {s t : State} (run : exec (.pass cold lost) s = .next t)
    (faultMode : isFaultMode t.mode = true) : detectFault t.mode (passInputs cold lost s) = true := by
  obtain ⟨m, entry, rfl⟩ | move := exec_pass_cases run
  · exact detectFault_of_faultEntry entry
  · exact detectFault_of_handlerMove move faultMode

/-- Settles O35: a PASS that ends in NOOSCCLOCK detects the missing oscillator. -/
theorem noOscClockNeedsZeroSamples : Obligations.NoOscClockNeedsZeroSamples := by
  intro s t cold lost run _ hm
  have detected := detectFault_of_exec_pass run (by rw [hm]; rfl)
  rw [hm] at detected
  exact detectNoOscClock_iff.mp detected

/-- No fault is detected where none holds. -/
theorem detectFault_of_noFault {cold lost : Bool} {s : State} (noFault : s.NoFault cold lost) (m : Mode) :
    ¬ detectFault m (passInputs cold lost s) = true := by
  cases m
  case oscCold => exact mt detectOscCold_iff.mp noFault.cold
  case noGpsLock => exact mt detectNoGpsLock_iff.mp noFault.lost
  case noGpsPps => exact mt detectNoGpsPps_iff.mp noFault.pps
  case noOscClock => exact mt detectNoOscClock_iff.mp noFault.clock
  all_goals exact Bool.false_ne_true

theorem isFaultMode_of_noFault {cold lost : Bool} {s t : State} (run : exec (.pass cold lost) s = .next t)
    (noFault : s.NoFault cold lost) : isFaultMode t.mode = false :=
  Bool.eq_false_iff.mpr fun faultMode => detectFault_of_noFault noFault _ (detectFault_of_exec_pass run faultMode)

/-- A PASS leaves what the fault checks read: the next one, with the same signals, finds no sample, and PPSMISS as the
snapshot left it (R121). -/
theorem passInputs_of_exec_pass {cold lost : Bool} {s t : State} (run : exec (.pass cold lost) s = .next t) :
    passInputs cold lost t = { passInputs cold lost s with ready := false, sample := 0 } := by
  obtain ⟨u, answer, consumed, kept, count, -, -⟩ := passSnapshotConsumesTheSample s cold lost
  cases run.symm.trans answer
  obtain ⟨cfg, -⟩ := exec_keeps_cfg_words run
  by_cases h : s.sample = 0
  · obtain ⟨sample, ppsMiss⟩ := kept h
    rw [h] at sample
    simp [passInputs, sampleReady, h, sample, ppsMiss, cfg, count]
  · obtain ⟨sample, ppsMiss⟩ := consumed h
    have ready : ¬ s.sample = 0#64 := h
    simp [passInputs, sampleReady, ready, sample, ppsMiss, cfg, count]

/-- No detection predicate reads the sample. -/
theorem detectFault_repeated {cold lost : Bool} {s t : State} (run : exec (.pass cold lost) s = .next t) (m : Mode) :
    detectFault m (passInputs cold lost t) = detectFault m (passInputs cold lost s) := by
  rw [passInputs_of_exec_pass run]
  cases m <;> rfl

theorem noFault_repeated {cold lost : Bool} {s t : State} (run : exec (.pass cold lost) s = .next t)
    (noFault : s.NoFault cold lost) : t.NoFault cold lost := by
  have absent (m : Mode) : ¬ detectFault m (passInputs cold lost t) = true := by
    rw [detectFault_repeated run]
    exact detectFault_of_noFault noFault m
  exact ⟨mt detectOscCold_iff.mpr (absent .oscCold), mt detectNoGpsLock_iff.mpr (absent .noGpsLock),
    mt detectNoGpsPps_iff.mpr (absent .noGpsPps), mt detectNoOscClock_iff.mpr (absent .noOscClock)⟩

/-- A fault mode holds while its fault is detected. -/
theorem mode_of_detected {cold lost : Bool} {s t : State} (run : exec (.pass cold lost) s = .next t)
    (faultMode : isFaultMode s.mode = true) (detected : detectFault s.mode (passInputs cold lost s) = true) :
    t.mode = s.mode := by
  rw [exec_pass_of_isFaultMode faultMode, handler_of_isFaultMode (by rwa [snapped_mode]), snapped_mode, detected] at run
  cases run
  exact snapped_mode s

theorem faultEntry_getD_eq_none (p : PassInputs) (m : Mode) : faultEntry p ((faultEntry p m).getD m) = none := by
  cases entry : faultEntry p m with
  | none => exact entry
  | some m' => exact faultEntry_of_isFaultMode (faultEntry_eq_some entry).2 p

/-- Settles O34: a fault mode is exempt from fault entry, and a repeated PASS detects what the first one detected. -/
theorem faultCheckIsIdempotent : Obligations.FaultCheckIsIdempotent := by
  refine ⟨faultEntry_getD_eq_none, fun s t u cold lost first second => ⟨fun faultMode => ?_, fun noFault => ?_⟩⟩
  · refine mode_of_detected second faultMode ?_
    rw [detectFault_repeated first]
    exact detectFault_of_exec_pass first faultMode
  · have again := noFault_repeated first noFault
    exact ⟨again, isFaultMode_of_noFault first noFault, isFaultMode_of_noFault second again⟩

end Sys2Proof.Machine
end

section
/-! Reports and the actuator write (R200, R204 to R206): DIAG_FLAGS tells which strobes a PASS drives, and only the close
of a window writes DUTY. The order of the strobes is log entry 10. -/

namespace Sys2Proof.Machine

/-- The strobe of EDGE_RPT. -/
def edgeStrobes (flags : BitVec 3) : List Output := if flags.getLsbD 0 = true then [.strobe .edgeReport] else []

/-- The strobes of DUTY_WR and WIN_RPT, in the order a handler drives them. -/
def handlerStrobes (flags : BitVec 3) : List Output :=
  (if flags.getLsbD 2 = true then [.strobe .actuatorWrite] else [])
    ++ if flags.getLsbD 1 = true then [.strobe .windowReport] else []

theorem snapped_diagFlags (s : State) : s.snapped.diagFlags = if s.sample = 0 then 0 else 1 := by
  unfold State.snapped
  split <;> rfl

theorem snapped_trace (s : State) : s.snapped.trace = s.trace ++ edgeStrobes s.snapped.diagFlags := by
  rw [snapped_diagFlags]
  by_cases h : s.sample = 0
  · rw [snapped_of_not_ready h, if_pos h]
    exact (List.append_nil _).symm
  · rw [snapped_of_ready h, if_neg h]
    rfl

/-- A handler drives the strobes of the flags it sets, and keeps EDGE_RPT. -/
def HandlerReports (s t : State) : Prop :=
  t.diagFlags.getLsbD 0 = s.diagFlags.getLsbD 0 ∧ t.trace = s.trace ++ handlerStrobes t.diagFlags

section
variable {s : State} (clear : s.diagFlags = 0 ∨ s.diagFlags = 1)
include clear

theorem handlerReports_silent {t : State} (flags : t.diagFlags = s.diagFlags) (trace : t.trace = s.trace) :
    HandlerReports s t := by
  have silent : handlerStrobes s.diagFlags = [] := by obtain h | h := clear <;> rw [h] <;> decide
  rw [HandlerReports, flags, trace, silent, List.append_nil]
  exact ⟨rfl, rfl⟩

theorem handlerReports_reported {u : State} (flags : u.diagFlags = s.diagFlags) (trace : u.trace = s.trace)
    (e p i a : Int) : HandlerReports s (u.reported e p i a) := by
  show (u.diagFlags ||| 2).getLsbD 0 = s.diagFlags.getLsbD 0
    ∧ u.trace ++ [.strobe .windowReport] = s.trace ++ handlerStrobes (u.diagFlags ||| 2)
  have strobes : handlerStrobes (s.diagFlags ||| 2) = [.strobe .windowReport] := by
    obtain h | h := clear <;> rw [h] <;> decide
  rw [flags, trace, strobes]
  exact ⟨by simp, rfl⟩

theorem handlerReports_adjusted {u : State} (flags : u.diagFlags = s.diagFlags) (trace : u.trace = s.trace)
    (e p i a : Int) : HandlerReports s ((u.adjusted a).reported e p i a) := by
  show (u.diagFlags ||| 4 ||| 2).getLsbD 0 = s.diagFlags.getLsbD 0
    ∧ u.trace ++ [.strobe .actuatorWrite] ++ [.strobe .windowReport] = s.trace ++ handlerStrobes (u.diagFlags ||| 4 ||| 2)
  have strobes : handlerStrobes (s.diagFlags ||| 4 ||| 2) = [.strobe .actuatorWrite] ++ [.strobe .windowReport] := by
    obtain h | h := clear <;> rw [h] <;> decide
  rw [flags, trace, strobes, List.append_assoc]
  exact ⟨by simp, rfl⟩

theorem handlerReports_of_handlerMove {p : PassInputs} {t : State} (move : HandlerMove p s t) : HandlerReports s t := by
  cases move with
  | locks | reportsFast | demotes | reportsSlow => exact handlerReports_reported clear (by rfl) (by rfl) _ _ _ _
  | adjustsFast | adjustsSlow => exact handlerReports_adjusted clear (by rfl) (by rfl) _ _ _ _
  | _ => exact handlerReports_silent clear rfl rfl

end

/-- What the outputs and the flags of a PASS are: phase 1 reports the sample, and the rest of the pass what it did. -/
theorem exec_pass_reports {cold lost : Bool} {s t : State} (run : exec (.pass cold lost) s = .next t) :
    t.diagFlags.getLsbD 0 = decide (s.sample ≠ 0)
      ∧ t.trace = s.trace ++ edgeStrobes t.diagFlags ++ handlerStrobes t.diagFlags := by
  have flags := snapped_diagFlags s
  have clear : s.snapped.diagFlags = 0 ∨ s.snapped.diagFlags = 1 := by
    rw [flags]
    by_cases h : s.sample = 0
    · exact .inl (if_pos h)
    · exact .inr (if_neg h)
  have reports : HandlerReports s.snapped t := by
    obtain ⟨m, -, rfl⟩ | move := exec_pass_cases run
    · exact handlerReports_silent clear rfl rfl
    · exact handlerReports_of_handlerMove clear move
  obtain ⟨edge, trace⟩ := reports
  rw [snapped_trace, edgeStrobes, ← edge] at trace
  refine ⟨?_, trace⟩
  rw [edge, flags]
  by_cases h : s.sample = 0
  · rw [if_pos h, h]; rfl
  · rw [if_neg h, decide_eq_true h]; rfl

theorem exec_pass_diagSecErr {cold lost : Bool} {s t : State} (run : exec (.pass cold lost) s = .next t) :
    t.diagSecErr = s.snapped.diagSecErr := by
  obtain ⟨u, answer, frame⟩ := exec_pass_withoutControl cold lost s
  cases run.symm.trans answer
  have secErr := congrArg State.diagSecErr frame
  exact secErr

/-- Settles O27: phase 1 writes the report of a ready sample, and the later phases keep it. -/
theorem everyReadySampleIsReported : Obligations.EveryReadySampleIsReported := by
  intro s t cold lost run
  have secErr := exec_pass_diagSecErr run
  obtain ⟨edge, trace⟩ := exec_pass_reports run
  refine ⟨fun ready => ?_, fun empty => ?_⟩
  · rw [snapped_of_ready ready] at secErr
    rw [decide_eq_true ready] at edge
    rw [edgeStrobes, if_pos edge, List.append_assoc] at trace
    exact ⟨secErr, edge, _, trace⟩
  · rw [snapped_of_not_ready empty] at secErr
    exact ⟨secErr, by simpa [empty] using edge⟩

/-- Settles O28: a PASS drives the strobes of its flags, and nothing else writes them. -/
theorem diagFlagsTellTheReports : Obligations.DiagFlagsTellTheReports := by
  refine ⟨fun s t cold lost run => ?_, fun i s t notPass run => ?_, fun s t w rest cause hw hd run => ?_⟩
  · obtain ⟨-, trace⟩ := exec_pass_reports run
    rw [trace, edgeStrobes, handlerStrobes]
    simp only [List.append_assoc]
  · have flags := congrArg State.diagFlags (exec_withoutEvents notPass run)
    exact flags
  · rw [step_of_rejected hw hd] at run
    cases run
    rfl

theorem handlerMove_duty {p : PassInputs} {s t : State} (move : HandlerMove p s t) (changed : t.duty ≠ s.duty) :
    p.ready = true ∧ (s.mode = .fast ∧ 7 ≤ s.winCnt.toInt ∨ s.mode = .slow ∧ 59 ≤ s.winCnt.toInt)
      ∧ t.diagFlags = s.diagFlags ||| 4 ||| 2 ∧ t.diagAdj ≠ 0 := by
  have stored {a : Int} (nonzero : a ≠ 0) (bounds : -32000 ≤ a ∧ a ≤ 32000) : BitVec.ofInt 64 a ≠ 0 := by
    intro zero
    have value : (BitVec.ofInt 64 a).toInt = a := toInt_ofInt_of_range (by decide) (by omega) (by omega)
    rw [zero] at value
    exact nonzero value.symm
  cases move with
  | adjustsFast hm full ready _ _ _ _ a nonzero bounds => exact ⟨ready, .inl ⟨hm, full⟩, rfl, stored nonzero bounds⟩
  | adjustsSlow hm full ready _ _ _ _ a nonzero bounds => exact ⟨ready, .inr ⟨hm, full⟩, rfl, stored nonzero bounds⟩
  | _ => exact absurd rfl changed

/-- Settles O53: the only moves that write DUTY are the adjustments at the close of a window. -/
theorem dutyChangesOnlyAtAWindowClose : Obligations.DutyChangesOnlyAtAWindowClose := by
  intro i s t run changed
  obtain ⟨cold, lost, rfl⟩ | frame := exec_pass_or_withoutEvents run
  · obtain ⟨m, -, rfl⟩ | move := exec_pass_cases run
    · exact absurd (snapped_duty s) changed
    obtain ⟨ready, closes, flags, adj⟩ := handlerMove_duty move (by rwa [snapped_duty])
    have sample := passInputs_ready.mp ready
    rw [snapped_mode, snapped_winCnt] at closes
    rw [snapped_diagFlags, if_neg sample] at flags
    obtain ⟨-, trace⟩ := exec_pass_reports run
    rw [flags, List.append_assoc] at trace
    exact ⟨⟨cold, lost, rfl⟩, sample, closes, flags, adj, _, trace, by decide⟩
  · have duty := congrArg State.duty frame
    exact absurd duty changed

end Sys2Proof.Machine
end

section
/-! Runs of the Tick Accumulator (R104 to R107): COUNT, COUNTADD and OVFPEND see only OVF, WRAP and EDGE, so a run's
sample is what its tick events alone would give. -/

namespace Sys2Proof.Machine

/-- A serviced wrap adds COUNTADD to the signed COUNT, less 2^64 where that passes the top of its range. -/
theorem toInt_ofInt_64_of_sum {a : Int} (lo : -2 ^ 63 ≤ a) (hi : a < 2 ^ 64) :
    (BitVec.ofInt 64 a).toInt = if a < 2 ^ 63 then a else a - 2 ^ 64 := by
  rw [BitVec.toInt_ofInt, Int.bmod_def]
  split_ifs <;> omega

/-- Settles O18: COUNT's stored sum, read as a signed integer. -/
theorem wrapAddsTheCreditExactly : Obligations.WrapAddsTheCreditExactly := by
  intro s pending credit
  have low := s.count.le_toInt
  have high := s.count.toInt_lt
  have stored := toInt_ofInt_64_of_sum (a := s.count.toInt + s.countAdd.toNat) (by omega) (by omega)
  exact ⟨_, exec_wrap_of_pending pending, fun below => stored.trans (if_pos below),
    fun above => stored.trans (if_neg (by omega))⟩

theorem execAll_cons {i : Instr} {s t : State} (run : exec i s = .next t) (rest : List Instr) :
    execAll (i :: rest) s = execAll rest t := by
  simp only [execAll, run]

theorem execAll_append {is : List Instr} (rest : List Instr) {s t : State} (run : execAll is s = .next t) :
    execAll (is ++ rest) s = execAll rest t := by
  induction is generalizing s with
  | nil => cases run; rfl
  | cons i is ih =>
    obtain ⟨u, e⟩ := exec_answers_next i s
    rw [execAll_cons e] at run
    rw [List.cons_append, execAll_cons e, ih run]

/-- A run of transactions keeps what each of them keeps. -/
theorem execAll_keeps {P : State → Prop} {is : List Instr}
    (executed : ∀ i ∈ is, ∀ s t, P s → exec i s = .next t → P t) {s : State} (hs : P s) :
    ∃ t, execAll is s = .next t ∧ P t := by
  induction is generalizing s with
  | nil => exact ⟨s, rfl, hs⟩
  | cons i is ih =>
    obtain ⟨u, e⟩ := exec_answers_next i s
    obtain ⟨t, run, ht⟩ :=
      ih (fun j hj => executed j (List.mem_cons_of_mem i hj)) (executed i List.mem_cons_self s u hs e)
    exact ⟨t, (execAll_cons e is).trans run, ht⟩

/-- The registers that only the tick events write, and that decide every sample. -/
def State.tickRegs (s : State) : BitVec 64 × BitVec 17 × Bool := (s.count, s.countAdd, s.ovfPend)

theorem exec_tickRegs_of_not_tickEvent {i : Instr} (h : isTickEvent i = false) {s t : State}
    (run : exec i s = .next t) : t.tickRegs = s.tickRegs := by
  cases i with
  | ovf | wrap | edge => cases h
  | pass cold lost =>
    obtain ⟨u, answer, -, -, count, countAdd, ovfPend⟩ := passSnapshotConsumesTheSample s cold lost
    cases run.symm.trans answer
    rw [State.tickRegs, count, countAdd, ovfPend]
    rfl
  | rdreg reg =>
    cases name : regName reg with
    | none => rw [exec_rdreg_of_unassigned name] at run; cases run; rfl
    | some r => rw [exec_rdreg_of_name name] at run; cases run; rfl

theorem exec_tickRegs_congr {i : Instr} (h : isTickEvent i = true) {s u t v : State} (same : s.tickRegs = u.tickRegs)
    (run : exec i s = .next t) (run' : exec i u = .next v) : t.tickRegs = v.tickRegs := by
  obtain ⟨count, countAdd, ovfPend⟩ : s.count = u.count ∧ s.countAdd = u.countAdd ∧ s.ovfPend = u.ovfPend := by
    simpa [State.tickRegs] using same
  cases i with
  | ovf =>
    cases run; cases run'
    simp [State.tickRegs, count, countAdd]
  | wrap =>
    cases pending : u.ovfPend with
    | true =>
      rw [exec_wrap_of_pending (ovfPend.trans pending)] at run
      rw [exec_wrap_of_pending pending] at run'
      cases run; cases run'
      simp [State.tickRegs, count, countAdd]
    | false =>
      rw [exec_wrap_of_idle (ovfPend.trans pending)] at run
      rw [exec_wrap_of_idle pending] at run'
      cases run; cases run'
      exact same
  | edge c =>
    rw [exec_edge_eq] at run run'
    cases run; cases run'
    rfl
  | pass | rdreg => cases h

/-- Passes and reads among the tick events make no difference to the Tick Accumulator. -/
theorem execAll_tickRegs_filter (is : List Instr) {s u : State} (same : s.tickRegs = u.tickRegs) :
    ∃ t v, execAll is s = .next t ∧ execAll (is.filter isTickEvent) u = .next v ∧ t.tickRegs = v.tickRegs := by
  induction is generalizing s u with
  | nil => exact ⟨s, u, rfl, rfl, same⟩
  | cons i is ih =>
    obtain ⟨s1, e⟩ := exec_answers_next i s
    rw [execAll_cons e]
    cases event : isTickEvent i with
    | true =>
      obtain ⟨u1, e'⟩ := exec_answers_next i u
      rw [List.filter_cons_of_pos event, execAll_cons e']
      exact ih (exec_tickRegs_congr event same e e')
    | false =>
      rw [List.filter_cons_of_neg (by simp [event])]
      exact ih ((exec_tickRegs_of_not_tickEvent event e).trans same)

theorem toInt_ofInt_64 {a : Int} (lo : -2 ^ 63 ≤ a) (hi : a < 2 ^ 63) : (BitVec.ofInt 64 a).toInt = a :=
  toInt_ofInt_of_range (by decide) lo hi

/-- The state after an overflow and its service (R101, R102). -/
def State.serviced (s : State) : State :=
  { s with
    count := BitVec.ofInt 64 (s.count.toInt + s.countAdd.toNat)
    countAdd := 65536
    ovfPend := false }

theorem serviced_count_toInt {s : State} (room : s.count.toInt + s.countAdd.toNat < 2 ^ 63) :
    s.serviced.count.toInt = s.count.toInt + s.countAdd.toNat := by
  have low := s.count.le_toInt
  exact toInt_ofInt_64 (by omega) room

theorem serviced_countAdd_toNat (s : State) : s.serviced.countAdd.toNat = 65536 := rfl

theorem execAll_tickWrapPairs_succ (k : Nat) (s : State) :
    execAll (tickWrapPairs (k + 1)) s = execAll (tickWrapPairs k) s.serviced := rfl

/-- Serviced overflows: the first adds the credit that COUNTADD holds, and each later one a whole period. -/
theorem execAll_tickWrapPairs (k : Nat) {s : State} (room : s.count.toInt + s.countAdd.toNat + k * 65536 < 2 ^ 63) :
    ∃ t, execAll (tickWrapPairs (k + 1)) s = .next t
      ∧ t.count.toInt = s.count.toInt + s.countAdd.toNat + k * 65536 := by
  have first := serviced_count_toInt (s := s) (by omega)
  rw [execAll_tickWrapPairs_succ]
  induction k generalizing s with
  | zero => exact ⟨_, rfl, by omega⟩
  | succ k ih =>
    have period := serviced_countAdd_toNat s
    obtain ⟨t, run, count⟩ := ih (s := s.serviced) (by omega) (serviced_count_toInt (by omega))
    exact ⟨t, run, by omega⟩

/-- The sample of an EDGE, while COUNT stays within its signed range (R103). -/
theorem execAll_edge_sample (c : BitVec 16) {s : State} (room : s.count.toInt + c.toNat < 2 ^ 63) :
    ∃ t, execAll [.edge c] s = .next t ∧ t.sample.toInt = s.count.toInt + c.toNat := by
  have low := s.count.le_toInt
  exact ⟨_, rfl, toInt_ofInt_64 (by rw [edgeValue]; omega) room⟩

/-- What an EDGE leaves for the next sample to count from (R103). -/
theorem exec_edge_credit (c : BitVec 16) (s : State) :
    ∃ t, exec (.edge c) s = .next t ∧ t.count.toInt = 0 ∧ (t.countAdd.toNat : Int) = 65536 - c.toNat := by
  refine ⟨_, exec_edge_eq c s, rfl, ?_⟩
  show ((BitVec.ofNat 17 (65536 - c.toNat)).toNat : Int) = 65536 - c.toNat
  rw [BitVec.toNat_ofNat]
  omega

/-- Settles O21: the tick events between the two EDGEs count from 65536 - C1 up by whole periods. -/
theorem samplesAreExact : Obligations.SamplesAreExact := by
  intro s c1 c2 k between hk room events
  obtain ⟨n, rfl⟩ : ∃ n, k = n + 1 := ⟨k - 1, by omega⟩
  obtain ⟨s1, edge, zero, credit⟩ := exec_edge_credit c1 s
  obtain ⟨t, v, run, ticks, same⟩ := execAll_tickRegs_filter between (s := s1) (u := s1) rfl
  obtain ⟨w, pairs, count⟩ := execAll_tickWrapPairs n (s := s1) (by omega)
  rw [events, pairs] at ticks
  cases ticks
  have sameCount : t.count = v.count := congrArg Prod.fst same
  obtain ⟨u, last, sample⟩ := execAll_edge_sample c2 (s := t) (by rw [sameCount]; omega)
  refine ⟨u, ?_, ?_⟩
  · rw [List.cons_append, execAll_cons edge, execAll_append _ run, last]
  · rw [sample, sameCount]
    omega

/-- Settles O22: the second WRAP of the coalesced order finds no overflow pending. -/
theorem coalescedOverflowLosesOneWrap : Obligations.CoalescedOverflowLosesOneWrap := by
  intro s c _ credit small
  have once := serviced_count_toInt (s := s) (by omega)
  have period := serviced_countAdd_toNat s
  have twice := serviced_count_toInt (s := s.serviced) (by omega)
  obtain ⟨t, run, sample⟩ := execAll_edge_sample c (s := s.serviced) (by omega)
  obtain ⟨u, run', sample'⟩ := execAll_edge_sample c (s := s.serviced.serviced) (by omega)
  exact ⟨t, u, run, run', by omega, by omega⟩

theorem filter_tickWrapPairs (k : Nat) : (tickWrapPairs k).filter isTickEvent = tickWrapPairs k := by
  induction k with
  | zero => rfl
  | succ k ih => rw [tickWrapPairs, List.filter_cons_of_pos rfl, List.filter_cons_of_pos rfl, ih]

/-- The sample after serviced overflows alone, which SamplesAreExact gives. -/
theorem execAll_edge_tickWrapPairs_edge (c c2 : BitVec 16) (s : State) {k : Nat} (hk : 1 ≤ k) (small : k ≤ 2 ^ 40) :
    ∃ t, execAll (.edge c :: tickWrapPairs k ++ [.edge c2]) s = .next t
      ∧ t.sample.toInt = k * 65536 + c2.toNat - c.toNat :=
  samplesAreExact s c c2 k (tickWrapPairs k) hk (by omega) (filter_tickWrapPairs k)

/-- Settles O23: the EDGE clears the pending overflow, so the WRAP after it finds none, and the next sample starts as if
there had been none. -/
theorem overflowPendingAtAnEdgeIsLost : Obligations.OverflowPendingAtAnEdgeIsLost := by
  intro s c c2 k _ credit small hk hk'
  refine ⟨?_, ⟨_, _, rfl, rfl, rfl⟩, ?_⟩
  · have serviced := serviced_count_toInt (s := s) (by omega)
    obtain ⟨t, run, sample⟩ :=
      execAll_edge_sample c (s := { s with ovfPend := true }) (by show s.count.toInt + _ < _; omega)
    obtain ⟨u, run', sample'⟩ := execAll_edge_sample c (s := s.serviced) (by omega)
    change t.sample.toInt = s.count.toInt + _ at sample
    exact ⟨t, u, run, run', by omega⟩
  · obtain ⟨t, run, sample⟩ := execAll_edge_tickWrapPairs_edge c c2 { s with ovfPend := true } hk hk'.le
    obtain ⟨u, run', sample'⟩ := execAll_edge_tickWrapPairs_edge c c2 s (k := k + 1) (by omega) (by omega)
    exact ⟨t, u, run, run', by push_cast at sample'; omega⟩

/-- COUNT is 0, and no overflow is pending. -/
def State.NoTicks (s : State) : Prop := s.count = 0 ∧ s.ovfPend = false

theorem exec_keeps_noTicks {i : Instr} (notOvf : i ≠ .ovf) (notEdge : ∀ c, i ≠ .edge c) {s t : State} (h : s.NoTicks)
    (run : exec i s = .next t) : t.NoTicks := by
  obtain ⟨count, idle⟩ := h
  cases i with
  | ovf => exact absurd rfl notOvf
  | edge c => exact absurd rfl (notEdge c)
  | wrap => rw [exec_wrap_of_idle idle] at run; cases run; exact ⟨count, idle⟩
  | pass | rdreg =>
    have same := exec_tickRegs_of_not_tickEvent rfl run
    simp only [State.tickRegs, Prod.mk.injEq] at same
    obtain ⟨count', -, idle'⟩ := same
    exact ⟨count'.trans count, idle'.trans idle⟩

theorem exec_keeps_count {i : Instr} (notWrap : i ≠ .wrap) (notEdge : ∀ c, i ≠ .edge c) {s t : State}
    (run : exec i s = .next t) : t.count = s.count := by
  cases i with
  | ovf => cases run; rfl
  | wrap => exact absurd rfl notWrap
  | edge c => exact absurd rfl (notEdge c)
  | pass | rdreg => exact congrArg Prod.fst (exec_tickRegs_of_not_tickEvent rfl run)

/-- Settles O24: before the first OVF no WRAP adds to COUNT, and after it there is no WRAP. -/
theorem noOverflowBetweenEdges : Obligations.NoOverflowBetweenEdges := by
  intro s c1 c2 beforeOvf fromOvf hBefore hFrom
  obtain ⟨s1, edge, started⟩ : ∃ s1, exec (.edge c1) s = .next s1 ∧ s1.NoTicks := ⟨_, rfl, rfl, rfl⟩
  obtain ⟨s2, before, zero, -⟩ := execAll_keeps (P := State.NoTicks)
    (fun i hi _ _ => exec_keeps_noTicks (hBefore i hi).1 (hBefore i hi).2) started
  obtain ⟨s3, rest, zero⟩ := execAll_keeps (P := fun u => u.count = 0)
    (fun i hi _ _ h run => (exec_keeps_count (hFrom i hi).1 (hFrom i hi).2 run).trans h) zero
  have value : s3.count.toInt = 0 := by rw [zero]; rfl
  obtain ⟨t, last, sample⟩ := execAll_edge_sample c2 (s := s3) (by omega)
  refine ⟨t, ?_, by omega⟩
  rw [List.cons_append, List.cons_append, List.append_assoc, execAll_cons edge, execAll_append _ before,
    execAll_append _ rest, last]

end Sys2Proof.Machine
end

section
/-! The source's recipe for the actuator on 16-bit values (R202), against the exact sum of R200. -/

namespace Sys2Proof.Machine

/-- Within the range of an adjustment the 16-bit sum wraps exactly where the exact one leaves [0, 65535]. -/
theorem wrapRecipe_toNat {duty : BitVec 16} {adj : Int} (low : 1 ≤ duty.toNat) (bound : |adj| ≤ 32000) :
    ((wrapRecipe duty adj).toNat : Int) =
      if duty.toNat + adj = 0 then 0 else max 1 (min 65535 (duty.toNat + adj)) := by
  obtain ⟨lo, hi⟩ := abs_le.mp bound
  have high := duty.isLt
  have sum : (duty + BitVec.ofInt 16 adj).toNat = (duty.toNat + (adj % 65536).toNat) % 65536 := by
    rw [BitVec.toNat_add, BitVec.toNat_ofInt]
    rfl
  have top : (65535 : BitVec 16).toNat = 65535 := rfl
  have bottom : (1 : BitVec 16).toNat = 1 := rfl
  simp only [wrapRecipe]
  by_cases up : 0 < adj
  · rw [if_pos up]
    split_ifs <;> omega
  · rw [if_neg up]
    split_ifs <;> omega

/-- Settles O52: the recipe's value and R200's are the same clamped sum, but for the sum 0. -/
theorem wrapRecipeDiffersOnlyAtZero : Obligations.WrapRecipeDiffersOnlyAtZero := by
  intro s adj low bound _
  have recipe := wrapRecipe_toNat low bound
  have clamped := applyAdjust_duty_toNat adj s
  refine ⟨fun notZero => ?_, fun zero => ⟨?_, ?_⟩⟩ <;> apply BitVec.eq_of_toNat_eq
  · rw [if_neg notZero] at recipe
    omega
  · rw [if_pos zero] at recipe
    exact Int.ofNat_inj.mp recipe
  · rw [zero] at clamped
    exact Int.ofNat_inj.mp clamped

end Sys2Proof.Machine
end

section
/-! The close of a FAST and of a SLOW window (R166 to R171, R177 to R183) on the state that phase 1 leaves. -/

namespace Sys2Proof.Machine

/-- Settles O43: LOCKCNT counts the fifth window in band, and the lock makes no adjustment. -/
theorem fifthWindowInBandLocks : Obligations.FifthWindowInBandLocks := by
  intro s cold lost hm noFault ready full inBand fifth room
  have counted : BitVec.ofInt 8 ((s.lockCnt.toNat : Int) + 1) = s.lockCnt + 1 := by
    apply BitVec.eq_of_toNat_eq
    rw [BitVec.toNat_ofInt, BitVec.toNat_add]
    have : (1 : BitVec 8).toNat = 1 := rfl
    omega
  have locks : Config.fastLockWindows ≤ (s.lockCnt + 1).toNat := by
    rw [BitVec.toNat_add]
    have : (1 : BitVec 8).toNat = 1 := rfl
    simp only [config_fastLockWindows]
    omega
  rw [exec_pass_fast_close hm noFault ready full, fastClose]
  simp only [absInt_eq, snapped_cfg, inBand, if_true, snapped_lockCnt, counted, locks]
  rfl

/-- Settles O47: S4 comes before every other term. -/
theorem grossSlowErrorDemotes : Obligations.GrossSlowErrorDemotes := by
  intro s cold lost hm noFault ready full gross
  rw [exec_pass_slow_close hm noFault ready full, slowClose, if_pos (by rwa [absInt_eq])]
  rfl

/-- A FAST window's close that does not complete the lock is F5 to F8 with LOCKCNT counted or cleared (R167). -/
theorem exec_pass_fast_adjusts {s : State} {cold lost : Bool} (hm : s.mode = .fast) (noFault : s.NoFault cold lost)
    (ready : s.sample ≠ 0) (full : 7 ≤ s.winCnt.toInt) {lock : Nat}
    (hl : lock = (if |s.fastError| ≤ s.cfg.fastErrorBand then s.lockCnt.toNat + 1 else 0)) (unlocked : lock < 5) :
    exec (.pass cold lost) s = .next (fastAdjust s.fastError
      { s.snapped with winSum := 0, winCnt := 0, lockCnt := BitVec.ofNat 8 lock }) := by
  rw [exec_pass_fast_close hm noFault ready full, fastClose]
  simp only [absInt_eq, snapped_cfg, snapped_lockCnt, config_fastLockWindows]
  by_cases inBand : |s.fastError| ≤ s.cfg.fastErrorBand
  · rw [if_pos inBand] at hl
    have counted : (BitVec.ofInt 8 ((s.lockCnt.toNat : Int) + 1)) = BitVec.ofNat 8 lock := by
      rw [hl, ← BitVec.ofInt_natCast]
      rfl
    have below : ¬ 5 ≤ (BitVec.ofNat 8 lock).toNat := by
      rw [BitVec.toNat_ofNat]
      omega
    simp only [inBand, if_true, counted, below, if_false]
  · rw [if_neg inBand] at hl
    rw [hl, if_neg inBand]
    rfl

/-- Settles O44: the close is F5 to F8, whose two products are written with `max` and `min`. -/
theorem fastWindowCloseAdjusts : Obligations.FastWindowCloseAdjusts := by
  intro s cold lost admitted hm noFault ready full lock p adj hl unlocked hp ha
  obtain ⟨-, -, maxError, -⟩ := (cfgAdmitted_iff s.cfg).mp admitted
  rw [exec_pass_fast_adjusts hm noFault ready full hl unlocked]
  obtain ⟨p', adj', hp', ha', close⟩ :=
    fastAdjust_cases s.fastError { s.snapped with winSum := 0, winCnt := 0, lockCnt := BitVec.ofNat 8 lock }
  have sameP : p' = p := by rw [hp', hp, snapped_cfg, fastProportional_eq maxError]
  have sameAdj : adj' = adj := by rw [ha', ha, sameP, clampAdjust_eq]
  subst sameP sameAdj
  refine ⟨fun nonzero => ?_, fun zero => ?_⟩
  · obtain ⟨-, e⟩ | ⟨zero, -⟩ := close
    · rw [e]
    · exact absurd zero nonzero
  · obtain ⟨nonzero, -⟩ | ⟨-, e⟩ := close
    · exact absurd zero nonzero
    · rw [e]

/-- What a FAST window's close out of band reports: the product of F6 and its clamp of F7 (R168 to R170, R205). -/
theorem fastAdjust_reports (error : Int) (s : State) :
    (fastAdjust error s).diagP = BitVec.ofInt 64 (fastProportional s.cfg error)
      ∧ (fastAdjust error s).diagAdj = BitVec.ofInt 64 (clampAdjust (fastProportional s.cfg error)) := ⟨rfl, rfl⟩

theorem toInt_clampAdjust (a : Int) : (BitVec.ofInt 64 (clampAdjust a)).toInt = clampAdjust a := by
  have bounds := clampAdjust_bounds a
  exact toInt_ofInt_64 (by omega) (by omega)

/-- Settles O45: the gain and the clamped error each have magnitude at least 1, so their product keeps the error's sign,
and so does its clamp. -/
theorem fastErrorAndAdjustmentAgreeInSign : Obligations.FastErrorAndAdjustmentAgreeInSign := by
  intro s t cold lost admitted gain maxError hm noFault ready full outOfBand run
  have quotient : 1 ≤ s.cfg.fastGain / 8 := by omega
  rw [exec_pass_fast_adjusts hm noFault ready full (lock := 0) (if_neg (by omega)).symm (by decide)] at run
  cases run
  have adj := (fastAdjust_reports s.fastError { s.snapped with winSum := 0, winCnt := 0, lockCnt := BitVec.ofNat 8 0 }).2
  rw [adj, toInt_clampAdjust, clampAdjust_eq]
  simp only [snapped_cfg]
  rw [fastProportional_eq (by omega)]
  generalize clamped : max (-s.cfg.fastMaxError) (min s.cfg.fastMaxError s.fastError) = c
  unfold State.fastError at clamped
  refine ⟨fun below => ?_, fun above => ?_⟩
  · have product : 0 < s.cfg.fastGain / 8 * c := mul_pos (by omega) (by omega)
    omega
  · have product : s.cfg.fastGain / 8 * c < 0 := mul_neg_of_pos_of_neg (by omega) (by omega)
    omega

/-- 81 times 393 is below the clamp of F7. -/
theorem abs_fastProportional_le {cfg : Cfg} (gain : 0 ≤ cfg.fastGain) (small : cfg.fastGain / 8 ≤ 81)
    (maxError : cfg.fastMaxError = 393) (error : Int) : |fastProportional cfg error| ≤ 31833 := by
  rw [fastProportional, maxError, abs_mul]
  have bounds := clamp_bounds (a := error) (lo := -393) (hi := 393) (by decide)
  calc |cfg.fastGain / 8| * |clamp error (-393) 393|
    _ ≤ 81 * 393 := mul_le_mul (abs_le.mpr ⟨by omega, small⟩) (abs_le.mpr bounds) (abs_nonneg _) (by decide)
    _ = 31833 := by decide

theorem fastAdjust_reports_unclamped {error : Int} {s : State} (small : |fastProportional s.cfg error| ≤ 31833) :
    |(fastAdjust error s).diagP.toInt| ≤ 31833 ∧ (fastAdjust error s).diagAdj = (fastAdjust error s).diagP := by
  obtain ⟨low, high⟩ := abs_le.mp small
  obtain ⟨diagP, diagAdj⟩ := fastAdjust_reports error s
  have unclamped : clampAdjust (fastProportional s.cfg error) = fastProportional s.cfg error := by
    rw [clampAdjust_eq]
    omega
  rw [diagP, diagAdj, unclamped, toInt_ofInt_64 (by omega) (by omega)]
  exact ⟨small, rfl⟩

/-- Settles O46: a close that adjusts reports a product within the clamp, and a lock reports zero terms. -/
theorem smallFastGainNeverMeetsTheClamp : Obligations.SmallFastGainNeverMeetsTheClamp := by
  intro s t cold lost admitted quotient maxError hm noFault ready full run
  obtain ⟨gain, -⟩ := (cfgAdmitted_iff s.cfg).mp admitted
  have small : |fastProportional s.snapped.cfg s.fastError| ≤ 31833 := by
    rw [snapped_cfg]
    exact abs_fastProportional_le gain quotient maxError _
  rw [exec_pass_fast_close hm noFault ready full] at run
  cases run
  obtain ⟨-, -, e⟩ | ⟨-, -, e⟩ | ⟨-, e⟩ :=
    fastClose_cases s.fastError { s.snapped with winSum := 0, winCnt := 0 } <;> rw [e]
  · exact (by decide : |(0 : BitVec 64).toInt| ≤ 31833 ∧ (0 : BitVec 64) = 0)
  · exact fastAdjust_reports_unclamped small
  · exact fastAdjust_reports_unclamped small

/-- Settles O48: the close is S5 to S9, whose terms are written on the integer that IHIST next holds. -/
theorem slowWindowCloseTracks : Obligations.SlowWindowCloseTracks := by
  intro s cold lost hm noFault ready full tame h pTerm iTerm adj hh hp hi ha
  rw [exec_pass_slow_close hm noFault ready full]
  have hist : (nextIHist s.slowError s.iHist).toInt = h := by rw [nextIHist_toInt, hh]
  have store : nextIHist s.slowError s.iHist = BitVec.ofInt 32 h := by rw [← hist, BitVec.ofInt_toInt]
  obtain ⟨gross, -⟩ | ⟨-, p', i', adj', hp', hi', ha', close⟩ :=
    slowClose_cases s.slowError { s.snapped with winSum := 0, winCnt := 0 }
  · rw [absInt_eq] at gross
    omega
  have sameP : p' = pTerm := by rw [hp', hp, slowProportional, snapped_cfg, absInt_eq]
  have sameI : i' = iTerm := by rw [hi', hi, slowIntegral, snapped_cfg, snapped_iHist, hist, absInt_eq]
  have sameAdj : adj' = adj := by rw [ha', ha, sameP, sameI, clampAdjust_eq]
  subst sameP sameI sameAdj
  refine ⟨fun nonzero => ?_, fun zero => ?_⟩
  · obtain ⟨-, e⟩ | ⟨zero, -⟩ := close
    · rw [e]
      simp only [snapped_iHist, snapped_minNoAdj, store]
      rfl
    · exact absurd zero nonzero
  · obtain ⟨nonzero, -⟩ | ⟨-, e⟩ := close
    · exact absurd zero nonzero
    · rw [e]
      simp only [snapped_iHist, snapped_minNoAdj, store]
      rfl

end Sys2Proof.Machine
end

section
/-! A pass on each of a list of delivered samples, with neither fault signal asserted: from FASTINIT the settle and the
first FAST window (R172 (c), R269), and in SLOW the count of windows in IHIST (R184 (a)). -/

namespace Sys2Proof.Machine

theorem noFault_deliver {s : State} (ticks : s.count.toInt ≤ 15000000) {v : BitVec 64} (ready : v ≠ 0) :
    (s.deliver v).NoFault false false where
  cold h := Bool.false_ne_true h.2
  lost h := Bool.false_ne_true h.2
  pps := not_lt.mpr ticks
  clock h := ready h.1

theorem passEach_cons {v : BitVec 64} {s t : State} (run : exec (.pass false false) (s.deliver v) = .next t)
    (rest : List (BitVec 64)) : passEach (v :: rest) s = passEach rest t := by
  simp only [passEach, run]

theorem passEach_answers_next (vs : List (BitVec 64)) (s : State) : ∃ t, passEach vs s = .next t := by
  induction vs generalizing s with
  | nil => exact ⟨s, rfl⟩
  | cons v vs ih =>
    obtain ⟨t, run⟩ := exec_answers_next (.pass false false) (s.deliver v)
    rw [passEach_cons run]
    exact ih t

/-- The state `n` ready samples after FASTINIT: one starts the settle, five more run it down, and from the seventh on the
window accumulates them to `sum`. -/
structure State.Acquiring (s : State) (n : Nat) (sum : BitVec 64) (duty : BitVec 16) : Prop where
  ticks : s.count.toInt ≤ 15000000
  duty : s.duty = duty
  init : n = 0 → s.mode = .fastInit
  wait : 1 ≤ n → n < 6 → s.mode = .fastWait ∧ s.winCnt.toInt = n - 6 ∧ s.lockCnt = 0
  opened : 6 ≤ n → s.mode = .fast ∧ s.winCnt.toInt = n - 6 ∧ s.lockCnt = 0 ∧ s.winSum = sum

/-- The sum of the window after one more sample: the first six are discarded. -/
def acquiredSum (n : Nat) (sum v : BitVec 64) : BitVec 64 := if n < 6 then 0 else sum + v

theorem winCnt_succ_toInt {w : BitVec 32} (low : -5 ≤ w.toInt) (high : w.toInt ≤ 60) : (w + 1).toInt = w.toInt + 1 := by
  rw [← winCnt_succ]
  exact toInt_ofInt_32 (by omega) (by omega)

section
variable {s : State} {n : Nat} {sum v : BitVec 64} {duty : BitVec 16} (h : s.Acquiring n sum duty) (ready : v ≠ 0)
include h ready

/-- The first sample (R161). -/
theorem exec_pass_acquiring_init (hn : n = 0) :
    ∃ t, exec (.pass false false) (s.deliver v) = .next t ∧ t.Acquiring (n + 1) (acquiredSum n sum v) duty := by
  subst hn
  exact ⟨_, fastInitStartsTheSettle (s.deliver v) false false (h.init rfl) (noFault_deliver h.ticks ready) ready,
    { ticks := (congrArg BitVec.toInt (snapped_count _)).trans_le h.ticks
      duty := (snapped_duty _).trans h.duty
      init := nofun
      wait := fun _ _ => ⟨rfl, rfl, rfl⟩
      opened := nofun }⟩

/-- The second to the sixth sample (R162). -/
theorem exec_pass_acquiring_wait (low : 1 ≤ n) (high : n < 6) :
    ∃ t, exec (.pass false false) (s.deliver v) = .next t ∧ t.Acquiring (n + 1) (acquiredSum n sum v) duty := by
  obtain ⟨hm, winCnt, lock⟩ := h.wait low high
  obtain ⟨settles, expires⟩ :=
    fastWaitCountsTheSettle (s.deliver v) false false hm (noFault_deliver h.ticks ready) ready
  have counted := winCnt_succ_toInt (w := s.winCnt) (by omega) (by omega)
  by_cases last : n = 5
  · exact ⟨_, expires (by show 0 ≤ s.winCnt.toInt + 1; omega),
      { ticks := (congrArg BitVec.toInt (snapped_count _)).trans_le h.ticks
        duty := (snapped_duty _).trans h.duty
        init := nofun
        wait := by omega
        opened := fun _ => ⟨rfl, by rw [last]; rfl, (snapped_lockCnt _).trans lock, (if_pos high).symm⟩ }⟩
  · exact ⟨_, settles (by show s.winCnt.toInt + 1 < 0; omega),
      { ticks := (congrArg BitVec.toInt (snapped_count _)).trans_le h.ticks
        duty := (snapped_duty _).trans h.duty
        init := nofun
        wait := fun _ _ => ⟨(snapped_mode _).trans hm, counted.trans (by omega), (snapped_lockCnt _).trans lock⟩
        opened := by omega }⟩

/-- The samples of the window, short of the one that closes it (R165). -/
theorem exec_pass_acquiring_opened (low : 6 ≤ n) (high : n < 13) :
    ∃ t, exec (.pass false false) (s.deliver v) = .next t ∧ t.Acquiring (n + 1) (acquiredSum n sum v) duty := by
  obtain ⟨hm, winCnt, lock, total⟩ := h.opened low
  have counted := winCnt_succ_toInt (w := s.winCnt) (by omega) (by omega)
  have added : s.winSum + v = acquiredSum n sum v := by rw [acquiredSum, if_neg (by omega), total]
  have accumulates := openWindowsAccumulate (s.deliver v) false false (noFault_deliver h.ticks ready) ready
    (by show 0 ≤ s.winCnt.toInt; omega) (.inl ⟨hm, by show s.winCnt.toInt + 1 < 8; omega⟩)
  exact ⟨_, accumulates,
    { ticks := (congrArg BitVec.toInt (snapped_count _)).trans_le h.ticks
      duty := (snapped_duty _).trans h.duty
      init := nofun
      wait := by omega
      opened := fun _ =>
        ⟨(snapped_mode _).trans hm, counted.trans (by omega), (snapped_lockCnt _).trans lock, added⟩ }⟩

theorem exec_pass_acquiring (room : n < 13) :
    ∃ t, exec (.pass false false) (s.deliver v) = .next t ∧ t.Acquiring (n + 1) (acquiredSum n sum v) duty := by
  obtain hn | ⟨low, high⟩ | low : n = 0 ∨ (1 ≤ n ∧ n < 6) ∨ 6 ≤ n := by omega
  · exact exec_pass_acquiring_init h ready hn
  · exact exec_pass_acquiring_wait h ready low high
  · exact exec_pass_acquiring_opened h ready low room

end

/-- The sum of a list of samples, of which the first ones are still to be discarded. -/
theorem foldl_drop_cons (n : Nat) {sum : BitVec 64} (unopened : n < 6 → sum = 0) (v : BitVec 64)
    (vs : List (BitVec 64)) :
    ((v :: vs).drop (6 - n)).foldl (fun sum v => sum + v) sum
      = (vs.drop (6 - (n + 1))).foldl (fun sum v => sum + v) (acquiredSum n sum v) := by
  by_cases waiting : n < 6
  · have more : 6 - n = 6 - (n + 1) + 1 := by omega
    rw [acquiredSum, if_pos waiting, unopened waiting, more, List.drop_succ_cons]
  · obtain ⟨drop, drop'⟩ : 6 - n = 0 ∧ 6 - (n + 1) = 0 := by omega
    rw [acquiredSum, if_neg waiting, drop, drop', List.drop_zero, List.drop_zero, List.foldl_cons]

theorem passEach_acquiring (vs : List (BitVec 64)) {s : State} {n : Nat} {sum : BitVec 64} {duty : BitVec 16}
    (h : s.Acquiring n sum duty) (unopened : n < 6 → sum = 0) (room : n + vs.length ≤ 13) (ready : ∀ v ∈ vs, v ≠ 0) :
    ∃ t, passEach vs s = .next t
      ∧ t.Acquiring (n + vs.length) ((vs.drop (6 - n)).foldl (fun sum v => sum + v) sum) duty := by
  induction vs generalizing s n sum with
  | nil => exact ⟨s, rfl, by simpa using h⟩
  | cons v vs ih =>
    rw [List.length_cons] at room ⊢
    obtain ⟨t, run, ht⟩ := exec_pass_acquiring h (ready v List.mem_cons_self) (by omega)
    obtain ⟨u, rest, hu⟩ := ih ht (fun more => if_pos (by omega)) (by omega)
      (fun v' hv => ready v' (List.mem_cons_of_mem v hv))
    rw [passEach_cons run, foldl_drop_cons n unopened, Nat.add_comm vs.length, ← Nat.add_assoc]
    exact ⟨u, rest, hu⟩

/-- Every close of a FAST window makes the window report (R167, R205). -/
theorem fastClose_winRpt (error : Int) (s : State) : (fastClose error s).diagFlags.getLsbD 1 = true := by
  have adjusts (u : State) : (fastAdjust error u).diagFlags.getLsbD 1 = true := by
    obtain ⟨_, _, -, -, ⟨-, e⟩ | ⟨-, e⟩⟩ := fastAdjust_cases error u <;> rw [e] <;> simp [State.reported]
  obtain ⟨-, -, e⟩ | ⟨-, -, e⟩ | ⟨-, e⟩ := fastClose_cases error s <;> rw [e]
  · simp [State.reported]
  · exact adjusts _
  · exact adjusts _

/-- Settles O50: six samples run FASTINIT and the settle, and the window holds every later one up to the seventh. -/
theorem acquisitionDiscardsSixSamples : Obligations.AcquisitionDiscardsSixSamples := by
  intro s vs hm ticks ready low high
  have start : s.Acquiring 0 0 s.duty :=
    { ticks := ticks, duty := rfl, init := fun _ => hm, wait := nofun, opened := nofun }
  obtain ⟨t, run, ht⟩ := passEach_acquiring vs start (fun _ => rfl) (by omega) ready
  rw [Nat.zero_add] at ht
  obtain ⟨mode, winCnt, lock, sum⟩ := ht.opened low
  refine ⟨t, run, mode, winCnt, sum, lock, ht.duty, fun v t' seven sample close => ?_⟩
  rw [exec_pass_fast_close (s := t.deliver v) mode (noFault_deliver ht.ticks sample) sample
    (by show 7 ≤ t.winCnt.toInt; omega)] at close
  cases close
  exact fastClose_winRpt _ _

/-- Windows of one sign count IHIST away from 0; `sign` is 1 or -1. -/
theorem nextIHist_of_sameSign {sign error : Int} (hs : sign = 1 ∨ sign = -1) {h : BitVec 32} (toward : 0 < sign * error)
    (away : 0 ≤ sign * h.toInt) (room : sign * h.toInt + 1 < 2 ^ 31) :
    (nextIHist error h).toInt = h.toInt + sign := by
  rw [nextIHist_toInt]
  obtain rfl | rfl := hs
  · rw [if_pos (by omega)]
    omega
  · rw [if_neg (by omega), if_pos (by omega)]
    omega

/-- A strict change of sign resets IHIST. -/
theorem nextIHist_of_signFlip {sign error : Int} (hs : sign = 1 ∨ sign = -1) {h : BitVec 32} (away : 0 < sign * h.toInt)
    (against : sign * error < 0) : nextIHist error h = 0 := by
  obtain rfl | rfl := hs <;> rw [nextIHist, if_neg (by omega), if_neg (by omega)]

/-- A SLOW pass that closes a window within 128 stays in SLOW and steps IHIST (R178, R180). -/
theorem exec_pass_slow_close_iHist {s : State} {cold lost : Bool} (hm : s.mode = .slow) (noFault : s.NoFault cold lost)
    (ready : s.sample ≠ 0) (full : 59 ≤ s.winCnt.toInt) (tame : |s.slowError| ≤ 128) :
    ∃ t, exec (.pass cold lost) s = .next t ∧ t.mode = .slow ∧ t.iHist = nextIHist s.slowError s.iHist := by
  refine ⟨_, exec_pass_slow_close hm noFault ready full, ?_⟩
  obtain ⟨gross, -⟩ | ⟨-, _, _, _, -, -, -, ⟨-, e⟩ | ⟨-, e⟩⟩ :=
    slowClose_cases s.slowError { s.snapped with winSum := 0, winCnt := 0 }
  · rw [absInt_eq] at gross
    omega
  all_goals
    rw [e]
    refine ⟨(snapped_mode s).trans hm, ?_⟩
    show nextIHist _ s.snapped.iHist = _
    rw [snapped_iHist]

/-- A SLOW pass that closes no window stays in SLOW and leaves IHIST (R175, R176). -/
theorem exec_pass_slow_open_iHist {s : State} {cold lost : Bool} (hm : s.mode = .slow) (noFault : s.NoFault cold lost)
    (ready : s.sample ≠ 0) (room : ¬ 59 ≤ s.winCnt.toInt) :
    ∃ t, exec (.pass cold lost) s = .next t ∧ t.mode = .slow ∧ t.iHist = s.iHist := by
  by_cases settling : s.winCnt.toInt < 0
  · exact ⟨_, settleSamplesAreDiscarded s cold lost (.inr hm) noFault ready settling, (snapped_mode s).trans hm,
      snapped_iHist s⟩
  · exact ⟨_, openWindowsAccumulate s cold lost noFault ready (by omega) (.inr ⟨hm, by omega⟩),
      (snapped_mode s).trans hm, snapped_iHist s⟩

theorem exec_pass_count {cold lost : Bool} {s t : State} (run : exec (.pass cold lost) s = .next t) :
    t.count = s.count := by
  obtain ⟨u, answer, -, -, count, -⟩ := passSnapshotConsumesTheSample s cold lost
  cases run.symm.trans answer
  exact count

/-- The errors of the windows that one more PASS, and then the rest of the samples, close. -/
theorem slowErrors_cons {v : BitVec 64} {s t : State} (run : exec (.pass false false) (s.deliver v) = .next t)
    (hm : s.mode = .slow) (rest : List (BitVec 64)) :
    slowErrors (v :: rest) s =
      if 59 ≤ s.winCnt.toInt then (s.deliver v).slowError :: slowErrors rest t else slowErrors rest t := by
  simp only [slowErrors, run, hm, true_and]

/-- IHIST in SLOW after windows that all have errors of one sign, none of them gross. -/
theorem passEach_iHist {sign : Int} (hs : sign = 1 ∨ sign = -1) (vs : List (BitVec 64)) {s : State} (hm : s.mode = .slow)
    (ticks : s.count.toInt ≤ 15000000) (ready : ∀ v ∈ vs, v ≠ 0) (away : 0 ≤ sign * s.iHist.toInt)
    (room : sign * s.iHist.toInt + (slowErrors vs s).length < 2 ^ 31)
    (toward : ∀ e ∈ slowErrors vs s, 0 < sign * e ∧ |e| ≤ 128) :
    ∃ t, passEach vs s = .next t ∧ t.mode = .slow ∧ t.count.toInt ≤ 15000000
      ∧ t.iHist.toInt = s.iHist.toInt + sign * (slowErrors vs s).length := by
  induction vs generalizing s with
  | nil => exact ⟨s, rfl, hm, ticks, by simp [slowErrors]⟩
  | cons v vs ih =>
    have noFault := noFault_deliver ticks (ready v List.mem_cons_self)
    have readyRest : ∀ v' ∈ vs, v' ≠ 0 := fun v' hv => ready v' (List.mem_cons_of_mem v hv)
    by_cases full : 59 ≤ s.winCnt.toInt
    · obtain ⟨t, run⟩ := exec_answers_next (.pass false false) (s.deliver v)
      rw [slowErrors_cons run hm, if_pos full] at room toward ⊢
      rw [List.length_cons] at room ⊢
      obtain ⟨sameSign, tame⟩ := toward _ List.mem_cons_self
      obtain ⟨t', run', mode, iHist⟩ :=
        exec_pass_slow_close_iHist (s := s.deliver v) hm noFault (ready v List.mem_cons_self) full tame
      cases run.symm.trans run'
      have counted : t.iHist.toInt = s.iHist.toInt + sign := by
        rw [iHist]
        exact nextIHist_of_sameSign hs sameSign away (by push_cast at room; show sign * s.iHist.toInt + 1 < _; omega)
      have further : sign * t.iHist.toInt = sign * s.iHist.toInt + 1 := by
        rw [counted]
        obtain rfl | rfl := hs <;> omega
      have count : t.count = s.count := exec_pass_count (s := s.deliver v) run
      obtain ⟨u, rest, modeU, ticksU, total⟩ := ih mode (by rwa [count]) readyRest (by omega)
        (by push_cast at room; omega) (fun e he => toward e (List.mem_cons_of_mem _ he))
      refine ⟨u, (passEach_cons run vs).trans rest, modeU, ticksU, ?_⟩
      rw [total, counted]
      push_cast
      ring
    · obtain ⟨t, run, mode, iHist⟩ :=
        exec_pass_slow_open_iHist (s := s.deliver v) hm noFault (ready v List.mem_cons_self) full
      change t.iHist = s.iHist at iHist
      rw [slowErrors_cons run hm, if_neg full] at room toward ⊢
      rw [passEach_cons run, ← iHist]
      rw [← iHist] at away room
      have count : t.count = s.count := exec_pass_count (s := s.deliver v) run
      exact ih mode (by rwa [count]) readyRest away room toward

/-- R184 (a) for windows of either sign: they count, and the next window of the other strict sign resets. -/
theorem iHist_countsTheRun_of_sign {sign : Int} (hs : sign = 1 ∨ sign = -1) {vs : List (BitVec 64)} {s t : State}
    (hm : s.mode = .slow) (start : s.iHist = 0) (ticks : s.count.toInt ≤ 15000000) (ready : ∀ v ∈ vs, v ≠ 0)
    (room : (slowErrors vs s).length < 2 ^ 31) (run : passEach vs s = .next t)
    (toward : ∀ e ∈ slowErrors vs s, 0 < sign * e ∧ |e| ≤ 128) :
    t.mode = .slow ∧ t.iHist.toInt = sign * (slowErrors vs s).length
      ∧ ∀ (v : BitVec 64) (u : State), slowErrors vs s ≠ [] → v ≠ 0 → 59 ≤ t.winCnt.toInt →
        sign * (t.deliver v).slowError < 0 → |(t.deliver v).slowError| ≤ 128 →
        exec (.pass false false) (t.deliver v) = .next u → u.iHist = 0 := by
  have zero : s.iHist.toInt = 0 := by rw [start]; rfl
  obtain ⟨t', run', mode, ticks', total⟩ :=
    passEach_iHist hs vs hm ticks ready (by rw [zero]; omega) (by rw [zero]; omega) toward
  cases run.symm.trans run'
  rw [zero, zero_add] at total
  refine ⟨mode, total, fun v u closedOne sample full against tame close => ?_⟩
  have closed : 0 < (slowErrors vs s).length := List.length_pos_iff.mpr closedOne
  obtain ⟨u', close', -, iHist⟩ :=
    exec_pass_slow_close_iHist (s := t.deliver v) mode (noFault_deliver ticks' sample) sample full tame
  cases close.symm.trans close'
  rw [iHist]
  refine nextIHist_of_signFlip hs ?_ against
  show 0 < sign * t.iHist.toInt
  rw [total]
  obtain rfl | rfl := hs <;> omega

/-- Settles O49: the two directions are one argument, by the sign of the errors. -/
theorem iHistCountsTheRun : Obligations.IHistCountsTheRun := by
  intro s vs hm start ticks ready room
  obtain ⟨t, run⟩ := passEach_answers_next vs s
  refine ⟨t, run, fun positive => ?_, fun negative => ?_⟩
  · obtain ⟨mode, total, flip⟩ := iHist_countsTheRun_of_sign (.inl rfl) hm start ticks ready room run
      (fun e he => ⟨by have := positive e he; omega, abs_le.mpr (by have := positive e he; omega)⟩)
    exact ⟨mode, by omega, fun v u closedOne sample full low below =>
      flip v u closedOne sample full (by omega) (abs_le.mpr ⟨low, by omega⟩)⟩
  · obtain ⟨mode, total, flip⟩ := iHist_countsTheRun_of_sign (.inr rfl) hm start ticks ready room run
      (fun e he => ⟨by have := negative e he; omega, abs_le.mpr (by have := negative e he; omega)⟩)
    exact ⟨mode, by omega, fun v u closedOne sample full above high =>
      flip v u closedOne sample full (by omega) (abs_le.mpr ⟨by omega, high⟩)⟩

end Sys2Proof.Machine
end

section
/-! The five registers whose reset values do not matter (R262): a mode reads WINSUM, WINCNT, IHIST or LOCKCNT only where
the modes on every way to it have written it, so two states that agree on the rest stay in step. -/

namespace Sys2Proof.Machine

/-- Agreement of two states on everything DUTY and MODE can come to depend on: the tick registers, MODE and DUTY, and each
window register in the modes that read it. -/
structure SameControl (s u : State) : Prop where
  cfg : s.cfg = u.cfg
  words : s.words = u.words
  count : s.count = u.count
  countAdd : s.countAdd = u.countAdd
  ovfPend : s.ovfPend = u.ovfPend
  sample : s.sample = u.sample
  ppsMiss : s.ppsMiss = u.ppsMiss
  mode : s.mode = u.mode
  duty : s.duty = u.duty
  winCnt : s.mode ∈ [Mode.fastWait, .fast, .slow] → s.winCnt = u.winCnt
  lockCnt : s.mode ∈ [Mode.fastWait, .fast] → s.lockCnt = u.lockCnt
  winSum : s.mode ∈ [Mode.fast, .slow] → s.winSum = u.winSum
  iHist : s.mode ∈ [Mode.slow] → s.iHist = u.iHist

/-- A mode that reads none of the window registers may be entered whatever they hold. -/
theorem sameControl_withMode {s u : State} (same : SameControl s u) {m : Mode}
    (unread : m ∉ [Mode.fastWait, .fast, .slow]) : SameControl { s with mode := m } { u with mode := m } :=
  { same with
    mode := rfl
    winCnt := fun read => absurd read unread
    lockCnt := fun read => absurd (List.mem_of_mem_dropLast (l := [Mode.fastWait, .fast, .slow]) read) unread
    winSum := fun read => absurd (List.mem_cons_of_mem _ read) unread
    iHist := fun read => absurd (List.mem_cons_of_mem _ (List.mem_cons_of_mem _ read)) unread }

theorem sameControl_recoverUnless {s u : State} (same : SameControl s u) (detected : Bool) :
    SameControl (recoverUnless detected s) (recoverUnless detected u) := by
  cases detected with
  | true => exact same
  | false => exact sameControl_withMode same (by decide)

theorem sameControl_windowReport {s u : State} (same : SameControl s u) (e p i a e' p' i' a' : Int) :
    SameControl (windowReport e p i a s) (windowReport e' p' i' a' u) := { same with }

theorem sameControl_applyAndSettle {s u : State} (same : SameControl s u) (a : Int) :
    SameControl (applyAndSettle a s) (applyAndSettle a u) :=
  { same with
    duty := by rw [applyAndSettle_duty, applyAndSettle_duty, same.duty]
    winCnt := fun _ => rfl }

theorem sameControl_fastAdjust {s u : State} (same : SameControl s u) (error : Int) :
    SameControl (fastAdjust error s) (fastAdjust error u) := by
  unfold fastAdjust
  rw [same.cfg]
  refine sameControl_windowReport ?_ ..
  split
  · exact sameControl_applyAndSettle same _
  · exact same

/-- The state with another LOCKCNT. -/
def State.withLock (s : State) (l : BitVec 8) : State := { s with lockCnt := l }

/-- The state with another IHIST. -/
def State.withIHist (s : State) (h : BitVec 32) : State := { s with iHist := h }

/-- The state with another WINSUM and WINCNT. -/
def State.withWindow (s : State) (sum : BitVec 64) (cnt : BitVec 32) : State := { s with winSum := sum, winCnt := cnt }

theorem sameControl_withLock {s u : State} (same : SameControl s u) (l : BitVec 8) :
    SameControl (s.withLock l) (u.withLock l) := { same with lockCnt := fun _ => rfl }

theorem sameControl_withIHist {s u : State} (same : SameControl s u) (h : BitVec 32) :
    SameControl (s.withIHist h) (u.withIHist h) := { same with iHist := fun _ => rfl }

theorem sameControl_withWindow {s u : State} (same : SameControl s u) (sum : BitVec 64) (cnt : BitVec 32) :
    SameControl (s.withWindow sum cnt) (u.withWindow sum cnt) :=
  { same with winSum := fun _ => rfl, winCnt := fun _ => rfl }

theorem fastClose_eq_ite (error : Int) (s : State) :
    fastClose error s =
      if absInt error ≤ s.cfg.fastErrorBand then
        if 5 ≤ (BitVec.ofInt 8 ((s.lockCnt.toNat : Int) + 1)).toNat then
          windowReport error 0 0 0
            { s.withLock (BitVec.ofInt 8 ((s.lockCnt.toNat : Int) + 1)) with mode := .slowInit }
        else fastAdjust error (s.withLock (BitVec.ofInt 8 ((s.lockCnt.toNat : Int) + 1)))
      else fastAdjust error (s.withLock 0) := rfl

theorem sameControl_fastClose {s u : State} (same : SameControl s u) (hm : s.mode = .fast) (error : Int) :
    SameControl (fastClose error s) (fastClose error u) := by
  have lock : s.lockCnt = u.lockCnt := same.lockCnt (by rw [hm]; decide)
  rw [fastClose_eq_ite, fastClose_eq_ite, ← same.cfg, ← lock]
  split_ifs
  · exact sameControl_windowReport (sameControl_withMode (sameControl_withLock same _) (m := .slowInit) (by decide)) ..
  · exact sameControl_fastAdjust (sameControl_withLock same _) error
  · exact sameControl_fastAdjust (sameControl_withLock same 0) error

theorem sameControl_slowApply {s u : State} (same : SameControl s u) (adj : Int) :
    SameControl (slowApply adj s) (slowApply adj u) := by
  unfold slowApply
  split_ifs
  · exact { sameControl_applyAndSettle same adj with }
  · exact { same with }

theorem slowAdjust_eq (error : Int) (s : State) :
    slowAdjust error s =
      windowReport error (slowProportional s.cfg error) (slowIntegral s.cfg (nextIHist error s.iHist))
        (clampAdjust (slowProportional s.cfg error + slowIntegral s.cfg (nextIHist error s.iHist)))
        (slowApply (clampAdjust (slowProportional s.cfg error + slowIntegral s.cfg (nextIHist error s.iHist)))
          (s.withIHist (nextIHist error s.iHist))) := rfl

theorem sameControl_slowClose {s u : State} (same : SameControl s u) (hm : s.mode = .slow) (error : Int) :
    SameControl (slowClose error s) (slowClose error u) := by
  have hist : s.iHist = u.iHist := same.iHist (by rw [hm]; decide)
  unfold slowClose
  split_ifs
  · exact sameControl_windowReport (sameControl_withMode same (m := .fastInit) (by decide)) ..
  · rw [slowAdjust_eq, slowAdjust_eq, ← same.cfg, ← hist]
    exact sameControl_windowReport (sameControl_slowApply (sameControl_withIHist same _) _) ..

theorem windowStep_eq_ite (size sample : Int) (s : State) :
    windowStep size sample s =
      if s.winCnt.toInt < 0 then (s.withWindow s.winSum (BitVec.ofInt 32 (s.winCnt.toInt + 1)), none)
      else if s.winCnt.toInt + 1 < size then
        (s.withWindow (BitVec.ofInt 64 (s.winSum.toInt + sample)) (BitVec.ofInt 32 (s.winCnt.toInt + 1)), none)
      else (s.withWindow 0 0, some (BitVec.ofInt 64 (s.winSum.toInt + sample)).toInt) := rfl

/-- A window's sample does the same in both states. -/
theorem sameControl_windowStep {s u : State} (same : SameControl s u) (hm : s.mode = .fast ∨ s.mode = .slow)
    (size sample : Int) :
    SameControl (windowStep size sample s).1 (windowStep size sample u).1
      ∧ (windowStep size sample s).2 = (windowStep size sample u).2 := by
  have cnt : s.winCnt = u.winCnt := same.winCnt (by obtain hm | hm := hm <;> rw [hm] <;> decide)
  have sum : s.winSum = u.winSum := same.winSum (by obtain hm | hm := hm <;> rw [hm] <;> decide)
  rw [windowStep_eq_ite, windowStep_eq_ite, ← cnt, ← sum]
  split_ifs <;> exact ⟨sameControl_withWindow same _ _, rfl⟩

theorem windowStep_mode (size sample : Int) (s : State) : (windowStep size sample s).1.mode = s.mode := by
  obtain ⟨-, e⟩ | ⟨-, -, e⟩ | ⟨-, -, e⟩ := windowStep_cases size sample s <;> rw [e]

/-- What FAST and SLOW make of a window's sample (R163, R174): where it closes the window, its sum is used. -/
def afterWindow (close : Int → State → State) : State × Option Int → State
  | (s, none) => s
  | (s, some sum) => close sum s

theorem handleFast_eq_afterWindow (p : PassInputs) (s : State) :
    handleFast p s = if p.ready then
      afterWindow (fun sum => fastClose (Config.sampleSeconds * Config.nominalHz - sum))
        (windowStep Config.sampleSeconds p.sample s)
      else s := by
  unfold handleFast
  split <;> rfl

theorem handleSlow_eq_afterWindow (p : PassInputs) (s : State) :
    handleSlow p s = if p.ready then
      afterWindow (fun sum => slowClose (Config.sampleMinute * Config.nominalHz - sum))
        (windowStep Config.sampleMinute p.sample s)
      else s := by
  unfold handleSlow
  split <;> rfl

theorem sameControl_afterWindow {s u : State} (same : SameControl s u) (hm : s.mode = .fast ∨ s.mode = .slow)
    {close : Int → State → State}
    (closes : ∀ sum {s' u' : State}, SameControl s' u' → s'.mode = s.mode → SameControl (close sum s') (close sum u'))
    (size sample : Int) :
    SameControl (afterWindow close (windowStep size sample s)) (afterWindow close (windowStep size sample u)) := by
  obtain ⟨stepped, sum⟩ := sameControl_windowStep same hm size sample
  have mode := windowStep_mode size sample s
  cases hs : windowStep size sample s with
  | mk s' sum' =>
    cases hu : windowStep size sample u with
    | mk u' sum'' =>
      rw [hs] at stepped mode sum
      rw [hu] at stepped sum
      cases sum
      cases sum' with
      | none => exact stepped
      | some sum => exact closes sum stepped mode

theorem sameControl_handleFastInit {s u : State} (same : SameControl s u) (p : PassInputs) :
    SameControl (handleFastInit p s) (handleFastInit p u) := by
  unfold handleFastInit
  split_ifs
  · exact { same with
      mode := rfl
      winCnt := fun _ => rfl
      lockCnt := fun _ => rfl
      winSum := fun read => absurd read (by decide : Mode.fastWait ∉ [Mode.fast, .slow])
      iHist := fun read => absurd read (by decide : Mode.fastWait ∉ [Mode.slow]) }
  · exact same

theorem handleFastWait_eq_ite (p : PassInputs) (s : State) :
    handleFastWait p s =
      if p.ready then
        if 0 ≤ s.winCnt.toInt + 1 then { s.withWindow 0 0 with mode := .fast }
        else s.withWindow s.winSum (BitVec.ofInt 32 (s.winCnt.toInt + 1))
      else s := rfl

theorem sameControl_handleFastWait {s u : State} (same : SameControl s u) (hm : s.mode = .fastWait) (p : PassInputs) :
    SameControl (handleFastWait p s) (handleFastWait p u) := by
  have cnt : s.winCnt = u.winCnt := same.winCnt (by rw [hm]; decide)
  have lock : s.lockCnt = u.lockCnt := same.lockCnt (by rw [hm]; decide)
  rw [handleFastWait_eq_ite, handleFastWait_eq_ite, ← cnt]
  split_ifs
  · exact { same with
      mode := rfl
      winCnt := fun _ => rfl
      lockCnt := fun _ => lock
      winSum := fun _ => rfl
      iHist := fun read => absurd read (by decide : Mode.fast ∉ [Mode.slow]) }
  · exact { same with winCnt := fun _ => rfl }
  · exact same

theorem sameControl_handleSlowInit {s u : State} (same : SameControl s u) (p : PassInputs) :
    SameControl (handleSlowInit p s) (handleSlowInit p u) := by
  unfold handleSlowInit
  split_ifs
  · exact { same with
      mode := rfl
      winCnt := fun _ => rfl
      lockCnt := fun read => absurd read (by decide : Mode.slow ∉ [Mode.fastWait, .fast])
      winSum := fun _ => rfl
      iHist := fun _ => rfl }
  · exact same

theorem sameControl_handleFast {s u : State} (same : SameControl s u) (hm : s.mode = .fast) (p : PassInputs) :
    SameControl (handleFast p s) (handleFast p u) := by
  rw [handleFast_eq_afterWindow, handleFast_eq_afterWindow]
  split_ifs
  · refine sameControl_afterWindow same (.inl hm) ?_ _ _
    intro sum s' u' stepped mode
    exact sameControl_fastClose stepped (mode.trans hm) _
  · exact same

theorem sameControl_handleSlow {s u : State} (same : SameControl s u) (hm : s.mode = .slow) (p : PassInputs) :
    SameControl (handleSlow p s) (handleSlow p u) := by
  rw [handleSlow_eq_afterWindow, handleSlow_eq_afterWindow]
  split_ifs
  · refine sameControl_afterWindow same (.inr hm) ?_ _ _
    intro sum s' u' stepped mode
    exact sameControl_slowClose stepped (mode.trans hm) _
  · exact same

theorem sameControl_handler {s u : State} (same : SameControl s u) (p : PassInputs) :
    SameControl (handler p s) (handler p u) := by
  cases hm : s.mode <;> simp only [handler, hm, ← same.mode]
  case start | checkErrors | good => exact sameControl_withMode same (by decide)
  case oscCold | noOscClock | noGpsPps | noGpsLock => exact sameControl_recoverUnless same _
  case fastInit => exact sameControl_handleFastInit same p
  case fastWait => exact sameControl_handleFastWait same hm p
  case fast => exact sameControl_handleFast same hm p
  case slowInit => exact sameControl_handleSlowInit same p
  case slow => exact sameControl_handleSlow same hm p

theorem sameControl_snapped {s u : State} (same : SameControl s u) : SameControl s.snapped u.snapped := by
  by_cases h : s.sample = 0
  · rw [snapped_of_not_ready h, snapped_of_not_ready (same.sample.symm.trans h)]
    exact { same with }
  · rw [snapped_of_ready h, snapped_of_ready (same.sample ▸ h)]
    exact { same with sample := rfl, ppsMiss := rfl }

theorem passInputs_congr {s u : State} (same : SameControl s u) (cold lost : Bool) :
    passInputs cold lost s = passInputs cold lost u := by
  have ready : sampleReady s = sampleReady u := congrArg (fun v : BitVec 64 => decide (v ≠ 0)) same.sample
  simp only [passInputs, ready, same.cfg, same.sample, same.count, same.ppsMiss]

theorem mem_gated_of_isFaultMode {m : Mode} (h : isFaultMode m = true) : m ∉ [Mode.fastWait, .fast, .slow] := by
  revert h
  cases m <;> decide

theorem sameControl_pass {s u : State} (same : SameControl s u) (cold lost : Bool) {t v : State}
    (run : exec (.pass cold lost) s = .next t) (run' : exec (.pass cold lost) u = .next v) : SameControl t v := by
  have snapped := sameControl_snapped same
  rw [exec_pass_eq] at run run'
  cases run
  cases run'
  rw [← passInputs_congr same, passPhasesTwoThree, passPhasesTwoThree, ← snapped.mode]
  cases entry : faultEntry (passInputs cold lost s) s.snapped.mode with
  | none => exact sameControl_handler snapped _
  | some m => exact sameControl_withMode snapped (mem_gated_of_isFaultMode (faultEntry_eq_some entry).2)

theorem sameControl_exec {s u : State} (same : SameControl s u) {i : Instr} {t v : State}
    (run : exec i s = .next t) (run' : exec i u = .next v) : SameControl t v := by
  cases i with
  | ovf => cases run; cases run'; exact { same with ovfPend := rfl }
  | wrap =>
    cases pending : s.ovfPend with
    | true =>
      rw [exec_wrap_of_pending pending] at run
      rw [exec_wrap_of_pending (same.ovfPend ▸ pending)] at run'
      cases run; cases run'
      exact { same with
        count := by show BitVec.ofInt _ _ = BitVec.ofInt _ _; rw [same.count, same.countAdd]
        countAdd := rfl
        ovfPend := rfl }
    | false =>
      rw [exec_wrap_of_idle pending] at run
      rw [exec_wrap_of_idle (same.ovfPend ▸ pending)] at run'
      cases run; cases run'
      exact same
  | edge c =>
    rw [exec_edge_eq] at run run'
    cases run; cases run'
    exact { same with
      ovfPend := rfl
      sample := congrArg (· + _) same.count
      countAdd := rfl
      count := rfl
      ppsMiss := congrArg satIncU32 same.ppsMiss }
  | pass cold lost => exact sameControl_pass same cold lost run run'
  | rdreg reg =>
    cases name : regName reg with
    | none =>
      rw [exec_rdreg_of_unassigned name] at run run'
      cases run; cases run'
      exact { same with }
    | some r =>
      rw [exec_rdreg_of_name name] at run run'
      cases run; cases run'
      exact { same with }

theorem sameControl_step {s u : State} (same : SameControl s u) {t v : State} (run : step s = .next t)
    (run' : step u = .next v) : SameControl t v := by
  cases hw : s.words with
  | nil =>
    rw [step_of_empty hw] at run
    rw [step_of_empty (same.words ▸ hw)] at run'
    cases run; cases run'
    exact same
  | cons w rest =>
    have taken : SameControl { s with words := rest } { u with words := rest } := { same with words := rfl }
    rw [step_of_cons hw] at run
    rw [step_of_cons (same.words ▸ hw)] at run'
    cases hd : decode w with
    | instr i =>
      rw [issueWord_of_instr hd] at run run'
      exact sameControl_exec taken run run'
    | rejected cause =>
      rw [issueWord_of_rejected hd] at run run'
      cases run; cases run'
      exact { taken with }

theorem sameControl_run (k : Nat) {s u : State} (same : SameControl s u) {t v : State}
    (run : Sys2Proof.core.run k s = .next t) (run' : Sys2Proof.core.run k u = .next v) : SameControl t v := by
  induction k generalizing s u with
  | zero => cases run; cases run'; exact same
  | succ k ih =>
    obtain ⟨s1, e⟩ := step_answers_next s
    obtain ⟨u1, e'⟩ := step_answers_next u
    rw [run_succ e] at run
    rw [run_succ e'] at run'
    exact ih (sameControl_step same e e') run run'

/-- Settles O60: START reads none of the five registers, and the two runs stay in step. -/
theorem fiveResetValuesDoNotMatter : Obligations.FiveResetValuesDoNotMatter := by
  intro c ws sum cnt hist noAdj lock k t u run run'
  have start : SameControl { State.resetWith c with words := ws } { State.resetWith c with
      words := ws
      winSum := sum
      winCnt := cnt
      iHist := hist
      minNoAdj := noAdj
      lockCnt := lock } :=
    { cfg := rfl, words := rfl, count := rfl, countAdd := rfl, ovfPend := rfl, sample := rfl, ppsMiss := rfl
      mode := rfl
      duty := rfl
      winCnt := fun read => absurd read (by decide : Mode.start ∉ [Mode.fastWait, .fast, .slow])
      lockCnt := fun read => absurd read (by decide : Mode.start ∉ [Mode.fastWait, .fast])
      winSum := fun read => absurd read (by decide : Mode.start ∉ [Mode.fast, .slow])
      iHist := fun read => absurd read (by decide : Mode.start ∉ [Mode.slow]) }
  have same := sameControl_run k start run run'
  exact ⟨same.duty, same.mode⟩

end Sys2Proof.Machine
end
